-- ==== Sys2Proof/Word.lean ====
section
/-! DEFINITION. The word types of the FS200AC protocol engine (spec/00_scope.md R6): a byte is 8 bits, a setting or a
timeout is 16 bits, and a frequency is a pair of bytes (spec/10_state.md R24). -/

namespace Sys2Proof

/-- A byte: 8 bits, 0 to 255 (R6). Everything on the channel is a whole number of these (R42). -/
abbrev Byte := BitVec 8

/-- A 16-bit quantity: a heading, a setting, a timeout value, an event value (R20, R24, R27). -/
abbrev Half := BitVec 16

/-- A frequency as the record holds it, "(integer-part, fractional-part) byte pair" (R24, R77). -/
structure FreqPair where
  int : Byte
  frac : Byte
  deriving DecidableEq, Repr, Inhabited

end Sys2Proof
end

