-- ==== Sys2Proof/Machine/Codec.lean ====
section
/-! DEFINITION. Family 1, the checksum codec and the frame encoder/decoder functions of spec/40_codec.md: pure functions on
bytes, which read no register, raise nothing and take no time. -/

namespace Sys2Proof.Machine

/-- The bytes of a list as a vector of `n` registers, in index order; a byte the list lacks is 0 (never used: every list the
machine stores has exactly the length of the buffer). -/
def vecOf (n : Nat) (l : List Byte) : Vector Byte n := Vector.ofFn fun i => l.getD i.val 0

/-- `fold(s)`, the XOR of all bytes of `s`, 0 for none (R100). -/
def fold : List Byte → Byte
  | [] => 0x00
  | b :: rest => b ^^^ fold rest

/-- The complement byte of a command frame, `(~(c ^ 0xA5)) & 0x7F` (R62, R101). -/
def complementOf (c : Byte) : Byte := (~~~(c ^^^ 0xA5)) &&& 0x7F

/-- `CmdFrame(c)`, the three bytes of a command frame (R101). -/
def cmdFrame (c : Byte) : List Byte := [0xA5, c, complementOf c]

/-- `CkGen(ck)`, checksum generation (R102). -/
def ckGen (ck : Byte) : Byte := ~~~ck &&& 0x7F

/-- `CkCheck(ck, t)`, checksum validation, all 8 bits compared (R103). -/
def ckCheck (ck t : Byte) : Bool := ck ^^^ t == 0x7F

/-- `VerNorm(b)`, the 8-bit wrap-around subtraction of 48 (R108). -/
def verNorm (b : Byte) : Byte := b - 48

/-- `DecodeCst(r)`: bytes 0 to 18 unchanged, the two version bytes normalised (R109). -/
def decodeCst (r : Vector Byte 21) : Vector Byte 21 :=
  Vector.ofFn fun i => if i.val < 19 then r[i] else verNorm r[i]

/-- The low byte of `Split7(v)`, `v & 0x7F` (R110). -/
def split7Lo (v : Half) : Byte := (v &&& 0x7F).setWidth 8

/-- The high byte of `Split7(v)`, `(v >> 7) & 0xFF`: bit 15 is lost (R110). -/
def split7Hi (v : Half) : Byte := (v >>> 7).setWidth 8

/-- `Join7(lo, hi)`, the inverse of the base-128 split (R111). -/
def join7 (lo hi : Byte) : Half := (hi.setWidth 16 <<< 7) ||| lo.setWidth 16

/-- `SignMag(s, m)`, the 9-bit two's-complement value of a sign flag and a magnitude (R115). -/
def signMag (s : Bool) (m : Byte) : BitVec 9 := if s then -(m.setWidth 9) else m.setWidth 9

/-- `KnobValue(v1, v2)` (R120). -/
def knobValue (v1 v2 : Byte) : Half := join7 v1 v2

/-- `XpdrValue(v1, v2)`, the 10-bit transponder packing (R120). -/
def xpdrValue (v1 v2 : Byte) : Half := ((v1 &&& 0x03).setWidth 16 <<< 8) ||| v2.setWidth 16

/-- `ToggleValue(v1)`: every non-zero byte is 1 (R121). -/
def toggleValue (v1 : Byte) : Half := if v1 = 0 then 0 else 1

/-- The synthetic Control code of the trim-down button (R90). -/
def trimDown : Byte := 0x80
/-- The synthetic Control code of the autopilot-trim-down button (R90). -/
def apTrimDown : Byte := 0x82

/-- `TrimControl(id, v1)`: the down code of the id for direction 1, one more for direction 2, nothing otherwise (R122). -/
def trimControl (id v1 : Byte) : Option Byte :=
  if v1 = 1 then some (if id = 0x3E then trimDown else apTrimDown)
  else if v1 = 2 then some ((if id = 0x3E then trimDown else apTrimDown) + 1)
  else none

end Sys2Proof.Machine
end

