-- ==== Sys2Proof/Syntax.lean ====
section
/-! DEFINITION. The instructions: one constructor per row of spec/opcode_table.json, in the table's order. The engine has no
instruction set in the processor sense (spec/00_scope.md R2): what plays the part of opcodes are the client's operation codes
(format op), the frames and single-byte codes on the channel (byte, cmd3, cue3, cst24, setup34, poll9) and the raw control ids
inside a poll frame (rawid). -/

namespace Sys2Proof

/-- One constructor per row of the opcode table. -/
inductive Instr where
  /-- HANDSHAKE, operation code 1 (R150). -/
  | handshake
  /-- FETCH, operation code 2 (R170). -/
  | fetch
  /-- SETUP, operation code 3 (R186); its operand is the CS file. -/
  | setup
  /-- POLL, operation code 4 (R200). -/
  | poll
  /-- TEARDOWN, operation code 5 (R156). -/
  | teardown
  /-- OP_RESERVED_0, operation code 0 (R95). -/
  | opReserved0
  /-- OP_RESERVED_6_7, operation codes 6 and 7: `low` is the code's bit 0 (R95). -/
  | opReserved67 (low : BitVec 1)
  /-- SYNC, the single byte 0xA5, both directions (R60). -/
  | sync
  /-- ACK, the single byte 0x06, both directions (R60). -/
  | ack
  /-- IDLE_SYNC, the single byte 0x58, console to host (R60). -/
  | idleSync
  /-- CMD, the generic command frame A5 command complement, host to console (R62, R101). -/
  | cmd (command complement : Byte)
  /-- CMD_RESET, the command frame A5 16 4C (R63). -/
  | cmdReset
  /-- CMD_PREFETCH, the command frame A5 36 6C (R63). -/
  | cmdPrefetch
  /-- CMD_FETCH, the command frame A5 23 79 (R63). -/
  | cmdFetch
  /-- CUE, the setup cue A5 23 5C, console to host (R74). -/
  | cue
  /-- CST_FRAME, the controls-state frame: SYNC, seed, the 21-byte record, trailing byte (R70, R72). -/
  | cstFrame (seed : Byte) (record : Vector Byte 21) (trailing : Byte)
  /-- SETUP_WRITE, the setup write: A5 19, 31 content bytes, checksum (R75, R76). -/
  | setupWrite (content : Vector Byte 31) (checksum : Byte)
  /-- POLL_FRAME, the poll frame: SYNC and the eight bytes p[0..7] (R80). -/
  | pollFrame (flags pitchMag rollMag yawMag rawId v1 v2 check : Byte)
  /-- ID_NONE, raw id 0x00 (R210). -/
  | idNone
  /-- ID_INVALID_01, raw id 0x01 (R218). -/
  | idInvalid01
  /-- ID_COURSE_SELECTOR, raw id 0x02 (R212). -/
  | idCourseSelector
  /-- ID_NAV1_ON, raw id 0x18 (R215). -/
  | idNav1On
  /-- ID_THROTTLE, raw id 0x38 (R217). -/
  | idThrottle
  /-- ID_TRIM, raw id 0x3E (R211). -/
  | idTrim
  /-- ID_INVALID_4D, raw id 0x4D (R218). -/
  | idInvalid4D
  /-- ID_INVALID_4E_4F, raw ids 0x4E and 0x4F: `low` is bit 0 (R218). -/
  | idInvalid4E4F (low : BitVec 1)
  /-- ID_INVALID_50_5F, raw ids 0x50 to 0x5F: `low` is bits 3:0 (R218). -/
  | idInvalid505F (low : BitVec 4)
  /-- ID_INVALID_60_7F, raw ids 0x60 to 0x7F: `low` is bits 4:0 (R218). -/
  | idInvalid607F (low : BitVec 5)
  /-- ID_INVALID_80_FF, raw ids 0x80 to 0xFF: `low` is bits 6:0 (R218). -/
  | idInvalid80FF (low : BitVec 7)
  /-- ID_OTHER, every raw id no other row matches; its class is ID_CLASS(id) (R85, R208). -/
  | idOther (id : Byte)
  deriving DecidableEq, Repr

end Sys2Proof
end

