-- ==== Sys2Proof/WellFormed.lean ====
section
/-! DEFINITION. Which instruction terms are instructions of the table: the conditions of a row that its constructor's argument
types do not already impose (spec/30_encoding.md R62, R75, R99). -/

namespace Sys2Proof

/-- The three command codes the engine uses, each a row of its own (R63). -/
def namedCommands : List Byte := [0x16, 0x36, 0x23]

/-- The raw ids below 0x4D that have a row of their own (R99: among the rawid rows the one with the larger mask wins). -/
def namedRawIds : List Byte := [0x00, 0x01, 0x02, 0x18, 0x38, 0x3E]

/-- Well-formedness, check by check: a generic command frame carries the complement of its command and is none of the three
named frames (R62, R99); a setup write carries the generated checksum of its content (R75, R112); the row ID_OTHER stands only
for ids that no other row matches (R99). Every other constructor has no condition. -/
def Instr.wf : Instr → Bool
  | .cmd c k => k == Machine.complementOf c && !namedCommands.contains c
  | .setupWrite content ck => ck == Machine.ckGen (Machine.fold content.toList)
  | .idOther id => decide (id.toNat ≤ 0x4C) && !namedRawIds.contains id
  | .handshake => true
  | .fetch => true
  | .setup => true
  | .poll => true
  | .teardown => true
  | .opReserved0 => true
  | .opReserved67 _ => true
  | .sync => true
  | .ack => true
  | .idleSync => true
  | .cmdReset => true
  | .cmdPrefetch => true
  | .cmdFetch => true
  | .cue => true
  | .cstFrame _ _ _ => true
  | .pollFrame _ _ _ _ _ _ _ _ => true
  | .idNone => true
  | .idInvalid01 => true
  | .idCourseSelector => true
  | .idNav1On => true
  | .idThrottle => true
  | .idTrim => true
  | .idInvalid4D => true
  | .idInvalid4E4F _ => true
  | .idInvalid505F _ => true
  | .idInvalid607F _ => true
  | .idInvalid80FF _ => true

end Sys2Proof
end

