-- ==== Sys2Proof/Decode.lean ====
section
/-! DEFINITION. Decoding, total on any bytes and rejecting by name, and after it the encoder, both from
spec/30_encoding.md. The table holds three code spaces that share the one-byte words (the same byte can be an operation code,
a channel code or a raw control id), so decoding is done at a port: where a word stands says which space it is read in
(notes/assumptions/11.md). -/

namespace Sys2Proof

/-- Where an instruction's bytes stand: on the client's start-request port (format op), on the serial channel (formats byte,
cmd3, cue3, cst24, setup34, poll9) or in byte 4 of a received poll frame (format rawid) (R99). -/
inductive Port where
  | client
  | channel
  | rawId
  deriving DecidableEq, Repr

/-- Why bytes are no instruction at a port. -/
inductive DecodeError where
  /-- No row of the port has this many bytes (R97). -/
  | wrongLength
  /-- A start request whose code does not fit in 3 bits (R12, R95). -/
  | codeTooWide
  /-- A single byte on the channel that is none of SYNC, ACK, IDLE_SYNC (R60). -/
  | notACode
  /-- A frame whose first byte is not SYNC (R61). -/
  | noSync
  /-- Three bytes after SYNC whose last has bit 7 set: no command frame (R62) and not the cue (R74). -/
  | complementBit7
  /-- 34 bytes whose second is not 0x19 (R75). -/
  | badSetupHeader
  /-- A setup write whose checksum byte has bit 7 set (R102, table row SETUP_WRITE). -/
  | checksumBit7
  deriving DecidableEq, Repr

/-- The row of a 3-bit operation code (R95). -/
def decodeOp (code : BitVec 3) : Instr :=
  if code = 1 then .handshake
  else if code = 2 then .fetch
  else if code = 3 then .setup
  else if code = 4 then .poll
  else if code = 5 then .teardown
  else if code = 0 then .opReserved0
  else .opReserved67 (code.setWidth 1)

/-- The row of a raw control id: among the rawid rows the one with the larger mask wins (R99). -/
def decodeRawId (id : Byte) : Instr :=
  if id = 0x00 then .idNone
  else if id = 0x01 then .idInvalid01
  else if id = 0x02 then .idCourseSelector
  else if id = 0x18 then .idNav1On
  else if id = 0x38 then .idThrottle
  else if id = 0x3E then .idTrim
  else if id = 0x4D then .idInvalid4D
  else if id &&& 0xFE = 0x4E then .idInvalid4E4F (id.setWidth 1)
  else if id &&& 0xF0 = 0x50 then .idInvalid505F (id.setWidth 4)
  else if id &&& 0xE0 = 0x60 then .idInvalid607F (id.setWidth 5)
  else if id &&& 0x80 = 0x80 then .idInvalid80FF (id.setWidth 7)
  else .idOther id

/-- The row of a single byte on the channel (R60). -/
def decodeByte (b : Byte) : Except DecodeError Instr :=
  if b = 0xA5 then .ok .sync
  else if b = 0x06 then .ok .ack
  else if b = 0x58 then .ok .idleSync
  else .error .notACode

/-- The row of SYNC and two more bytes: the three named frames and the cue first, then the generic row, whose mask leaves
the complement's low seven bits to `Instr.wf` (R62, R63, R74). -/
def decodeThree (c k : Byte) : Except DecodeError Instr :=
  if c = 0x16 ∧ k = 0x4C then .ok .cmdReset
  else if c = 0x36 ∧ k = 0x6C then .ok .cmdPrefetch
  else if c = 0x23 ∧ k = 0x79 then .ok .cmdFetch
  else if c = 0x23 ∧ k = 0x5C then .ok .cue
  else if k &&& 0x80 = 0 then .ok (.cmd c k)
  else .error .complementBit7

/-- The setup write from the 33 bytes after SYNC (R75). -/
def decodeSetupWrite (rest : List Byte) : Except DecodeError Instr :=
  if rest.getD 0 0 ≠ 0x19 then .error .badSetupHeader
  else if rest.getD 32 0 &&& 0x80 ≠ 0 then .error .checksumBit7
  else .ok (.setupWrite (Machine.vecOf 31 (rest.drop 1)) (rest.getD 32 0))

/-- The row of a frame that starts with SYNC, from the bytes after it: the length alone says which format (R97). -/
def decodeAfterSync (rest : List Byte) : Except DecodeError Instr :=
  if rest.length = 2 then decodeThree (rest.getD 0 0) (rest.getD 1 0)
  else if rest.length = 8 then
    .ok (.pollFrame (rest.getD 0 0) (rest.getD 1 0) (rest.getD 2 0) (rest.getD 3 0) (rest.getD 4 0) (rest.getD 5 0)
      (rest.getD 6 0) (rest.getD 7 0))
  else if rest.length = 23 then .ok (.cstFrame (rest.getD 0 0) (Machine.vecOf 21 (rest.drop 1)) (rest.getD 22 0))
  else if rest.length = 33 then decodeSetupWrite rest
  else .error .wrongLength

/-- The row of the bytes of one transfer on the channel (R61). -/
def decodeChannel : List Byte → Except DecodeError Instr
  | [] => .error .wrongLength
  | [b] => decodeByte b
  | b :: rest =>
    if [2, 8, 23, 33].contains rest.length then
      if b = 0xA5 then decodeAfterSync rest else .error .noSync
    else .error .wrongLength

/-- Decoding at a port, total on any bytes. -/
def decode : Port → List Byte → Except DecodeError Instr
  | .client, [b] => if b.toNat < 8 then .ok (decodeOp (b.setWidth 3)) else .error .codeTooWide
  | .client, _ => .error .wrongLength
  | .channel, bs => decodeChannel bs
  | .rawId, [b] => .ok (decodeRawId b)
  | .rawId, _ => .error .wrongLength

/-- The port an instruction's bytes stand at (R99). -/
def Instr.port : Instr → Port
  | .handshake => .client
  | .fetch => .client
  | .setup => .client
  | .poll => .client
  | .teardown => .client
  | .opReserved0 => .client
  | .opReserved67 _ => .client
  | .sync => .channel
  | .ack => .channel
  | .idleSync => .channel
  | .cmd _ _ => .channel
  | .cmdReset => .channel
  | .cmdPrefetch => .channel
  | .cmdFetch => .channel
  | .cue => .channel
  | .cstFrame _ _ _ => .channel
  | .setupWrite _ _ => .channel
  | .pollFrame _ _ _ _ _ _ _ _ => .channel
  | .idNone => .rawId
  | .idInvalid01 => .rawId
  | .idCourseSelector => .rawId
  | .idNav1On => .rawId
  | .idThrottle => .rawId
  | .idTrim => .rawId
  | .idInvalid4D => .rawId
  | .idInvalid4E4F _ => .rawId
  | .idInvalid505F _ => .rawId
  | .idInvalid607F _ => .rawId
  | .idInvalid80FF _ => .rawId
  | .idOther _ => .rawId

/-- The bytes of an instruction, first on the wire first, from the rows' match values and layouts (R62, R63, R70, R74, R75,
R80, R85, R95). -/
def encode : Instr → List Byte
  | .handshake => [1]
  | .fetch => [2]
  | .setup => [3]
  | .poll => [4]
  | .teardown => [5]
  | .opReserved0 => [0]
  | .opReserved67 low => [0x06 ||| low.setWidth 8]
  | .sync => [0xA5]
  | .ack => [0x06]
  | .idleSync => [0x58]
  | .cmd c k => [0xA5, c, k]
  | .cmdReset => [0xA5, 0x16, 0x4C]
  | .cmdPrefetch => [0xA5, 0x36, 0x6C]
  | .cmdFetch => [0xA5, 0x23, 0x79]
  | .cue => [0xA5, 0x23, 0x5C]
  | .cstFrame seed record trailing => 0xA5 :: seed :: (record.toList ++ [trailing])
  | .setupWrite content ck => 0xA5 :: 0x19 :: (content.toList ++ [ck])
  | .pollFrame flags pitchMag rollMag yawMag rawId v1 v2 check =>
    [0xA5, flags, pitchMag, rollMag, yawMag, rawId, v1, v2, check]
  | .idNone => [0x00]
  | .idInvalid01 => [0x01]
  | .idCourseSelector => [0x02]
  | .idNav1On => [0x18]
  | .idThrottle => [0x38]
  | .idTrim => [0x3E]
  | .idInvalid4D => [0x4D]
  | .idInvalid4E4F low => [0x4E ||| low.setWidth 8]
  | .idInvalid505F low => [0x50 ||| low.setWidth 8]
  | .idInvalid607F low => [0x60 ||| low.setWidth 8]
  | .idInvalid80FF low => [0x80 ||| low.setWidth 8]
  | .idOther id => [id]

/-- The bytes of a table word, byte 0 in bits 7:0, as many as `nbits` fills and at least one. -/
def tableBytes (nbits w : Nat) : List Byte :=
  (List.range (max 1 ((nbits + 7) / 8))).map fun k => BitVec.ofNat 8 (w >>> (8 * k))

/-- The port a table word is read at. A one-byte word names no port, so the model fixes an order (notes/assumptions/11.md):
0 to 7 are operation codes, the codes SYNC and IDLE_SYNC are channel codes, every other byte is a raw id. -/
def tablePort : List Byte → Port
  | [b] => if b.toNat < 8 then .client else if b = 0xA5 ∨ b = 0x58 then .channel else .rawId
  | _ => .channel

/-- The instruction the decoder reads from a table word whose bits are `w`. -/
def decodeTableWord (nbits w : Nat) : Option Instr :=
  (decode (tablePort (tableBytes nbits w)) (tableBytes nbits w)).toOption

end Sys2Proof
end

