-- ==== Sys2Proof/Config.lean ====
section
/-! DEFINITION. What an implementation fixes: the OPEN parameters of spec/00_scope.md R5 and spec/92_eei_decisions.md
section 6. A claim is to hold for every value in a parameter's range, so the parameters are plain data carried in one
constant field of State (notes/assumptions/4.md), and the values at reset that the spec leaves open are constants with no
body, of which nothing can be proved. -/

namespace Sys2Proof

/-- The event classes, the values of ID_CLASS (R85). -/
inductive IdClass where
  | none | trim | knob | knobXpdr | button | toggle | switch | slider | invalid
  deriving DecidableEq, Repr, Inhabited

/-- The eight frequency pairs of the ConsoleState file, in the order of R24. -/
inductive PairName where
  | nav1Stby | nav1Cur | nav2Stby | nav2Cur | adfStby | adfCur | unk | com
  deriving DecidableEq, Repr, Inhabited

/-- The five 16-bit settings of the ConsoleState file, in the order of R24. -/
inductive SettingName where
  | nav1Crs | nav2Obs | adfBrg | baro | apHdg
  deriving DecidableEq, Repr, Inhabited

/-- A group of content bytes of the setup buffer that every SETUP_LAYOUT keeps adjacent, low index first
(spec/92_eei_decisions.md section 6): the selector, a pair, a split setting, or one opaque byte. -/
inductive SetupGroup where
  | radioSel
  | pair (p : PairName)
  | setting (n : SettingName)
  | opaqueByte (i : Fin 4)
  deriving DecidableEq, Repr, Inhabited

/-- The parameters of R5 marked OPEN, and the two that have the spec's default (HS_PASSES, SETUP_LAYOUT). -/
structure Params where
  /-- HS_PASSES, 1 to 255, default 2 (R150, D10); how 0 is read is `Machine.passesOf`. -/
  hsPasses : BitVec 8
  /-- WAIT_SKIP_MAX, 0 to 65535, no default (R136, D5). -/
  waitSkipMax : Half
  /-- ID_CLASS on the ids the spec gives no class, any class (R85, D20); an id not listed is `Invalid` (R92;
  notes/assumptions/9.md). -/
  idOther : List (Byte × IdClass)
  /-- CTRL_RADIO_TUNE, the raw id of the radio-tune knob (R90, D21). -/
  ctrlRadioTune : Byte
  /-- DEF_RADIO_SEL (R24, D16). -/
  defRadioSel : Byte
  /-- DEF_ADF_STBY (R24, D16). -/
  defAdfStby : FreqPair
  /-- DEF_ADF_CUR (R24, D16). -/
  defAdfCur : FreqPair
  /-- DEF_UNK (R24, D16). -/
  defUnk : FreqPair
  /-- DEF_OPAQUE[0..3] (R24, D16). -/
  defOpaque : Vector Byte 4
  /-- WTO_MULT_INIT (R21, D29). -/
  wtoMultInit : Half
  /-- SETUP_LAYOUT as an order of the groups (R76, D14). -/
  setupLayout : List SetupGroup
  deriving DecidableEq, Repr, Inhabited

/-- WAIT_SKIP_MAX of the machine at reset: OPEN, no default (R5, D5; notes/assumptions/6.md). -/
opaque Config.waitSkipMax : Half
/-- ID_CLASS of the machine at reset on the ids the spec gives no class: OPEN (R85, D20; notes/assumptions/6.md). -/
opaque Config.idOther : List (Byte × IdClass)
/-- CTRL_RADIO_TUNE of the machine at reset: OPEN (R90, D21; notes/assumptions/6.md). -/
opaque Config.ctrlRadioTune : Byte
/-- DEF_RADIO_SEL: OPEN (R24, D16; notes/assumptions/6.md). -/
opaque Config.defRadioSel : Byte
/-- DEF_ADF_STBY: OPEN (R24, D16; notes/assumptions/6.md). -/
opaque Config.defAdfStby : FreqPair
/-- DEF_ADF_CUR: OPEN (R24, D16; notes/assumptions/6.md). -/
opaque Config.defAdfCur : FreqPair
/-- DEF_UNK: OPEN (R24, D16; notes/assumptions/6.md). -/
opaque Config.defUnk : FreqPair
/-- DEF_OPAQUE[0..3]: OPEN (R24, D16; notes/assumptions/6.md). -/
opaque Config.defOpaque : Vector Byte 4
/-- WTO_MULT_INIT: OPEN (R21, D29; notes/assumptions/6.md). -/
opaque Config.wtoMultInit : Half

end Sys2Proof
end

