-- ==== Sys2Proof/Machine/Constants.lean ====
section
/-! DEFINITION. The constants of spec/00_scope.md R5 whose value the source fixes, and the default of SETUP_LAYOUT
(spec/30_encoding.md R76). -/

namespace Sys2Proof.Machine

/-- SYNC, the byte that starts a command frame and every console-originated frame (R60). -/
def syncByte : Byte := 0xA5
/-- ACK, the acknowledge code (R60). -/
def ackByte : Byte := 0x06
/-- IDLE_SYNC, the byte of an idle and synchronized console (R60). -/
def idleByte : Byte := 0x58
/-- The command code CMD_RESET (R63). -/
def resetCode : Byte := 0x16
/-- The command code CMD_PREFETCH (R63). -/
def prefetchCode : Byte := 0x36
/-- The command code CMD_FETCH (R63). -/
def fetchCode : Byte := 0x23
/-- CUE, the setup cue (R74). -/
def cueBytes : List Byte := [0xA5, 0x23, 0x5C]
/-- HDR_SETUP, the header of the setup write (R75). -/
def setupHeader : List Byte := [0xA5, 0x19]
/-- GAP_MS, the inter-byte gap in milliseconds (R132, R270). -/
def gapMs : Nat := 42
/-- SETTLE_MS, the settle time in milliseconds (R186, R271). -/
def settleMs : Nat := 28
/-- The budget of every bounded attempt loop: RESET_TRIES, FETCH_TRIES, CUE_TRIES and SETUP_TRIES are all 3 (R5, R141). -/
def attempts : Nat := 3

/-- The layout of R76: the groups of the setup buffer in the order in which the spec lists the fields. -/
def defaultLayout : List SetupGroup :=
  [.radioSel, .pair .nav1Stby, .pair .nav1Cur, .pair .nav2Stby, .pair .nav2Cur, .pair .adfStby, .pair .adfCur, .pair .unk,
    .pair .com, .setting .nav1Crs, .setting .nav2Obs, .setting .adfBrg, .setting .baro, .setting .apHdg, .opaqueByte 0,
    .opaqueByte 1, .opaqueByte 2, .opaqueByte 3]

end Sys2Proof.Machine
end

