-- ==== Sys2Proof/Machine/State.lean ====
section
/-! DEFINITION. The state of the protocol engine (spec/10_state.md R10 to R31), as plain data: every register the spec names,
the delay timer (spec/60_exceptions.md R246), and beside them the model's own fields, which are not state of the engine: the
parameters, and the environment as data (what the Transport holds, what the outside does next, what the engine has asked of the
Transport so far). -/

namespace Sys2Proof.Machine

/-- The values of SEQ, the engine's program counter: the 23 labels of R11. -/
inductive Label where
  | idle
  | hsProbe | hsRstTx | hsRstAck | hsSync | hsNudge
  | feC36Tx | feC36Ack | feC23Tx | feC23Ack | feSync | feSeed | fePayload | feTrail | feAckTx
  | suCue | suCueAckTx | suSettle | suWrTx | suWrAck
  | poSync | poPayload | poAckTx
  deriving DecidableEq, Repr

/-- The values of SUB: which response the sequencer waits for (R11). -/
inductive Sub where
  | none | rd | wr | dly
  deriving DecidableEq, Repr

/-- The values of OP (R12); the reserved codes 6 and 7 are never held. -/
inductive Op where
  | none | handshake | fetch | setup | poll | teardown
  deriving DecidableEq, Repr

/-- The error kinds of RESULT.ERR and LASTERR (R230); the reserved codes 5 to 7 are never held. -/
inductive ErrKind where
  | none | timeout | checksumMismatch | shortTransfer | protocolViolation
  deriving DecidableEq, Repr

/-- The values of HS_STATE (R22, R151). -/
inductive HsState where
  | idle | awaitingSync | resettingSent | synchronized
  deriving DecidableEq, Repr

/-- The RESULT register (R23). -/
structure ResultReg where
  done : Bool
  ok : Bool
  err : ErrKind
  deriving DecidableEq, Repr

/-- The CS input file, the ConsoleState record (R24). -/
structure ConsoleState where
  radioSel : Byte
  nav1Stby : FreqPair
  nav1Cur : FreqPair
  nav2Stby : FreqPair
  nav2Cur : FreqPair
  adfStby : FreqPair
  adfCur : FreqPair
  unk : FreqPair
  com : FreqPair
  nav1Crs : Half
  nav2Obs : Half
  adfBrg : Half
  baro : Half
  apHdg : Half
  opaqueBytes : Vector Byte 4
  deriving DecidableEq, Repr

/-- The MOT output file: three 9-bit two's-complement values (R26). -/
structure Motion where
  pitch : BitVec 9
  roll : BitVec 9
  yaw : BitVec 9
  deriving DecidableEq, Repr

/-- The values of EVT.TAG (R27); the codes 6 and 7 are never written. -/
inductive EventTag where
  | none | button | slider | switch | toggle | knob
  deriving DecidableEq, Repr

/-- The EVT output file (R27). -/
structure EventRec where
  tag : EventTag
  ctrl : Byte
  val : Half
  deriving DecidableEq, Repr

/-- One client write of a field of CS (R24, R29). -/
inductive CsWrite where
  | radioSel (v : Byte)
  | pairInt (p : PairName) (v : Byte)
  | pairFrac (p : PairName) (v : Byte)
  | setting (n : SettingName) (v : Half)
  | opaqueByte (i : Fin 4) (v : Byte)
  deriving DecidableEq, Repr

/-- What the outside does to the engine, one thing at a time (notes/assumptions/2.md). -/
inductive Input where
  /-- The client presents a start request with an operation code (R139). -/
  | start (code : BitVec 3)
  /-- The client writes a field of CS (R24). -/
  | writeCs (w : CsWrite)
  /-- A frame, or any other run of bytes, passes on the channel (R61). -/
  | frame (bytes : List Byte)
  /-- The Transport answers the outstanding request with success, where it can: a write, or a read whose bytes it holds
  (R45, R46). -/
  | grant
  /-- The Transport answers the outstanding request with `fail`, and `lost` of the bytes it held go with it (R45, R46). -/
  | deny (lost : Nat)
  /-- The 1 ms tick of the delay timer (R48, R246). -/
  | tick
  /-- The reset input (R260). -/
  | reset
  deriving DecidableEq, Repr

/-- What the engine asks of the outside: the Transport requests of R43 and R47, and its own delays (R134). -/
inductive Request where
  | read (n : Nat)
  | write (b : Byte)
  | delay (ms : Nat)
  | setReadTimeout (mult const : Half)
  | setWriteTimeout (mult : Half)
  deriving DecidableEq, Repr

/-- The machine stops with a fault: never. The engine has no trap, and every error is an ordinary return with a status
(R236, R248), so this type has no value and no meaning raises one (safe). -/
inductive Fault where
  deriving DecidableEq, Repr

/-- Why a step can be refused. -/
inductive Refusal where
  /-- Raised only by an arm of exec whose instruction has no meaning yet, of which there is none (safe). -/
  | notModelled (mnemonic : String)
  deriving DecidableEq, Repr

/-- The state. The first fields are the engine's (R10, R246); the last four are the model's own. -/
structure State where
  /-- SEQ (R11). -/
  seq : Label
  /-- SUB (R11). -/
  sub : Sub
  /-- OP (R12). -/
  op : Op
  /-- BUSY (R13). -/
  busy : Bool
  /-- TRY, 2 bits (R14). -/
  tries : BitVec 2
  /-- PASS, 8 bits (R14). -/
  pass : BitVec 8
  /-- IDX, 6 bits (R14). -/
  idx : BitVec 6
  /-- MATCH, 2 bits (R14). -/
  matched : BitVec 2
  /-- SKIP, 16 bits (R14). -/
  skip : BitVec 16
  /-- LASTERR (R14). -/
  lastErr : ErrKind
  /-- CK, the running XOR accumulator (R15). -/
  ck : Byte
  /-- RXB[0..20], the receive buffer (R16). -/
  rxb : Vector Byte 21
  /-- TXB[0..31], the setup buffer (R17). -/
  txb : Vector Byte 32
  /-- CMDB[0..2], the command frame being sent (R18). -/
  cmdb : Vector Byte 3
  /-- RTO_MULT (R20). -/
  rtoMult : Half
  /-- RTO_CONST (R20). -/
  rtoConst : Half
  /-- WTO_MULT (R21). -/
  wtoMult : Half
  /-- HS_STATE (R22). -/
  hsState : HsState
  /-- RESULT (R23). -/
  result : ResultReg
  /-- CS (R24). -/
  cs : ConsoleState
  /-- CST[0..20] (R25). -/
  cst : Vector Byte 21
  /-- CST_VALID (R25). -/
  cstValid : Bool
  /-- MOT (R26). -/
  mot : Motion
  /-- EVT (R27). -/
  evt : EventRec
  /-- POLL_VALID (R26). -/
  pollValid : Bool
  /-- The delay timer, a 6-bit down-counter of 1 ms ticks (R246). -/
  timer : BitVec 6
  /-- The model's own: the parameters of R5, which no step changes. -/
  params : Params
  /-- The model's own: the bytes the Transport holds, arrived and not yet read, oldest first (R30, R55). -/
  held : List Byte
  /-- The model's own: what the outside does next, first first; a step takes one (R49). -/
  inbox : List Input
  /-- The model's own: what the engine has asked of the outside since reset, oldest first (R49). -/
  requests : List Request
  deriving DecidableEq, Repr

/-- The default ConsoleState instance, with the OPEN fields taken from the parameters (R24). -/
def ConsoleState.default (p : Params) : ConsoleState where
  radioSel := p.defRadioSel
  nav1Stby := ⟨111, 70⟩
  nav1Cur := ⟨111, 70⟩
  nav2Stby := ⟨109, 50⟩
  nav2Cur := ⟨109, 50⟩
  adfStby := p.defAdfStby
  adfCur := p.defAdfCur
  unk := p.defUnk
  com := ⟨121, 20⟩
  nav1Crs := 180
  nav2Obs := 180
  adfBrg := 180
  baro := 2992
  apHdg := 180
  opaqueBytes := p.defOpaque

/-- The machine of parameters `p` right after reset (R260): the values the rules give, the two timeout requests issued,
nothing held and nothing waiting. The registers R260 calls unspecified (RXB, TXB, CMDB, CST, MOT, EVT) hold zeros
(DESIGN CHOICE, notes/assumptions/5.md). -/
def State.resetWith (p : Params) : State where
  seq := .idle
  sub := .none
  op := .none
  busy := false
  tries := 0
  pass := 0
  idx := 0
  matched := 0
  skip := 0
  lastErr := .none
  ck := 0
  rxb := Vector.replicate 21 0
  txb := Vector.replicate 32 0
  cmdb := Vector.replicate 3 0
  rtoMult := 0
  rtoConst := 0
  wtoMult := p.wtoMultInit
  hsState := .idle
  result := ⟨false, false, .none⟩
  cs := ConsoleState.default p
  cst := Vector.replicate 21 0
  cstValid := false
  mot := ⟨0, 0, 0⟩
  evt := ⟨.none, 0, 0⟩
  pollValid := false
  timer := 0
  params := p
  held := []
  inbox := []
  requests := [.setWriteTimeout p.wtoMultInit, .setReadTimeout 0 0]

/-- The parameters of the machine at reset: the spec's default where it has one (HS_PASSES 2, SETUP_LAYOUT R76), constants
with no body where it has none (notes/assumptions/6.md). -/
def resetParams : Params where
  hsPasses := 2
  waitSkipMax := Config.waitSkipMax
  idOther := Config.idOther
  ctrlRadioTune := Config.ctrlRadioTune
  defRadioSel := Config.defRadioSel
  defAdfStby := Config.defAdfStby
  defAdfCur := Config.defAdfCur
  defUnk := Config.defUnk
  defOpaque := Config.defOpaque
  wtoMultInit := Config.wtoMultInit
  setupLayout := defaultLayout

/-- The machine right after reset. -/
def State.reset : State := State.resetWith resetParams

end Sys2Proof.Machine
end

