-- ==== Sys2Proof/Machine/Operands.lean ====
section
/-! DEFINITION. What the operations take as operands: the parameters as the rules use them, the setup buffer made from the CS
file (spec/40_codec.md R112), the byte sequences awaited and sent at each wait-point (spec/10_state.md R11), and the event
triplet and motion bytes of a poll frame (spec/45_poll.md R206 to R218). -/

namespace Sys2Proof.Machine

/-- HS_PASSES as a count from 1 to 255: a parameter of 0, which is outside the range, is read as the default 2
(R5, D10; notes/assumptions/7.md). -/
def passesOf (p : Params) : BitVec 8 := if p.hsPasses = 0 then 2 else p.hsPasses

/-- The class the parameter gives an id; an id it does not list is `Invalid` (R92). -/
def otherClass (p : Params) (id : Byte) : IdClass := (p.idOther.lookup id).getD .invalid

/-- ID_CLASS: the fixed rows of R85 first, the parameter for every other id. -/
def idClass (p : Params) (id : Byte) : IdClass :=
  if id = 0x00 then .none
  else if id = 0x02 then .knob
  else if id = 0x18 then .toggle
  else if id = 0x38 then .slider
  else if id = 0x3E then .trim
  else if id = 0x01 ∨ 0x4C < id.toNat then .invalid
  else otherClass p id

/-- CTRL_RADIO_TUNE, an id of class Knob: a parameter that is no such id is read as the course selector's id, the one knob id
the spec gives (R90, D21; notes/assumptions/10.md). -/
def radioTuneOf (p : Params) : Byte := if idClass p p.ctrlRadioTune = .knob then p.ctrlRadioTune else 0x02

/-- SETUP_LAYOUT as an order of all groups: a parameter that does not hold every group once is read as the default
(R76, D14; notes/assumptions/8.md). -/
def layoutOf (p : Params) : List SetupGroup :=
  if p.setupLayout.isPerm defaultLayout then p.setupLayout else defaultLayout

/-- A frequency pair of the CS file by name. -/
def pairOf (cs : ConsoleState) : PairName → FreqPair
  | .nav1Stby => cs.nav1Stby
  | .nav1Cur => cs.nav1Cur
  | .nav2Stby => cs.nav2Stby
  | .nav2Cur => cs.nav2Cur
  | .adfStby => cs.adfStby
  | .adfCur => cs.adfCur
  | .unk => cs.unk
  | .com => cs.com

/-- A 16-bit setting of the CS file by name. -/
def settingOf (cs : ConsoleState) : SettingName → Half
  | .nav1Crs => cs.nav1Crs
  | .nav2Obs => cs.nav2Obs
  | .adfBrg => cs.adfBrg
  | .baro => cs.baro
  | .apHdg => cs.apHdg

/-- The bytes of one group: a pair fractional byte first, a setting low seven bits first, the rest as they are
(R77, R78, R112, R113). -/
def groupBytes (cs : ConsoleState) : SetupGroup → List Byte
  | .radioSel => [cs.radioSel]
  | .pair p => [(pairOf cs p).frac, (pairOf cs p).int]
  | .setting n => [split7Lo (settingOf cs n), split7Hi (settingOf cs n)]
  | .opaqueByte i => [cs.opaqueBytes[i]]

/-- Bytes 0 to 30 of the setup buffer. -/
def setupContent (layout : List SetupGroup) (cs : ConsoleState) : List Byte := layout.flatMap (groupBytes cs)

/-- `EncodeSetup(cs)`: the content and its generated checksum (R112). -/
def encodeSetup (layout : List SetupGroup) (cs : ConsoleState) : Vector Byte 32 :=
  vecOf 32 (setupContent layout cs ++ [ckGen (fold (setupContent layout cs))])

/-- The sequence the wait at a label awaits; empty where the label is no wait (R11, R136). -/
def awaited : Label → List Byte
  | .hsProbe => [idleByte]
  | .hsRstAck => [ackByte]
  | .hsSync => [idleByte]
  | .feC36Ack => [ackByte]
  | .feC23Ack => [ackByte]
  | .feSync => [syncByte]
  | .suCue => cueBytes
  | .suWrAck => [ackByte]
  | .poSync => [syncByte]
  | _ => []

/-- The bound `T` of the wait at a label, in milliseconds (R5, R11). -/
def waitBound : Label → Half
  | .hsProbe => 50
  | .hsRstAck => 500
  | .hsSync => 500
  | .feC36Ack => 500
  | .feC23Ack => 500
  | .feSync => 440
  | .suCue => 440
  | .suWrAck => 440
  | .poSync => 100
  | _ => 0

/-- How many bytes the read outstanding at a label asks for (R43). -/
def readLen : Label → Nat
  | .fePayload => 21
  | .poPayload => 8
  | _ => 1

/-- The labels at which a command frame is sent (R11). -/
def sendsCommand (l : Label) : Bool := l == .hsRstTx || l == .feC36Tx || l == .feC23Tx

/-- The labels at which a multi-byte transmission goes on (R11, R132). -/
def sendsFrame (l : Label) : Bool := sendsCommand l || l == .suWrTx

/-- The labels at which a single ACK is sent (R11, R131). -/
def sendsAck (l : Label) : Bool := l == .hsNudge || l == .feAckTx || l == .suCueAckTx || l == .poAckTx

/-- The multi-byte transmission of a label: the command frame in CMDB, or the header and TXB (R132, R137, R186). -/
def outFrame (s : State) : List Byte := if s.seq = .suWrTx then setupHeader ++ s.txb.toList else s.cmdb.toList

/-- The byte the write outstanding at a label carries: an ACK, or byte IDX of the transmission (R131, R132). -/
def outByte (s : State) : Byte := if sendsFrame s.seq then (outFrame s).getD s.idx.toNat 0 else ackByte

/-- `DecodeMotion(p)` on RXB[0..3]: bits 7:3 of the flags byte are ignored (R116, R206). -/
def decodeMotion (rxb : Vector Byte 21) : Motion where
  pitch := signMag (rxb[0].getLsbD 0) rxb[1]
  roll := signMag (rxb[0].getLsbD 1) rxb[2]
  yaw := signMag (rxb[0].getLsbD 2) rxb[3]

/-- Arm `None`: no event (R210). -/
def armNone : Option EventRec := some ⟨.none, 0, 0⟩
/-- Arm `Trim`: the direction's button, or invalid (R211). -/
def armTrim (id v1 : Byte) : Option EventRec := (trimControl id v1).map fun c => ⟨.button, c, 0⟩
/-- Arm `Knob` (R212). -/
def armKnob (id v1 v2 : Byte) : Option EventRec := some ⟨.knob, id, knobValue v1 v2⟩
/-- Arm `KnobXpdr`: reported as the radio-tune knob (R213). -/
def armKnobXpdr (radioTune v1 v2 : Byte) : Option EventRec := some ⟨.knob, radioTune, xpdrValue v1 v2⟩
/-- Arm `Button` (R214). -/
def armButton (id : Byte) : Option EventRec := some ⟨.button, id, 0⟩
/-- Arm `Toggle` (R215). -/
def armToggle (id v1 : Byte) : Option EventRec := some ⟨.toggle, id, toggleValue v1⟩
/-- Arm `Switch` (R216). -/
def armSwitch (id v1 : Byte) : Option EventRec := some ⟨.switch, id, v1.setWidth 16⟩
/-- Arm `Slider` (R217). -/
def armSlider (id v1 : Byte) : Option EventRec := some ⟨.slider, id, v1.setWidth 16⟩
/-- Arm `Invalid`: no event, a protocol violation (R218). -/
def armInvalid : Option EventRec := Option.none

/-- The arm of a class (R208). -/
def classArm (p : Params) (id v1 v2 : Byte) : IdClass → Option EventRec
  | .none => armNone
  | .trim => armTrim id v1
  | .knob => armKnob id v1 v2
  | .knobXpdr => armKnobXpdr (radioTuneOf p) v1 v2
  | .button => armButton id
  | .toggle => armToggle id v1
  | .switch => armSwitch id v1
  | .slider => armSlider id v1
  | .invalid => armInvalid

/-- `DecodeEvent(id, v1, v2)`, the classifier; `Option.none` is the spec's `invalid` (R208). -/
def decodeEvent (p : Params) (id v1 v2 : Byte) : Option EventRec := classArm p id v1 v2 (idClass p id)

end Sys2Proof.Machine
end

