-- ==== Sys2Proof/Machine/Flags.lean ====
section
/-! DEFINITION. The flags of the engine, BUSY, RESULT.DONE, RESULT.OK, CST_VALID and POLL_VALID, and the status fields set with
them (spec/10_state.md R28): what accepting a start does to them and what the return of an operation does. There are no
arithmetic condition codes. -/

namespace Sys2Proof.Machine

/-- The register writes of an accepted start (R139): OP, BUSY, RESULT and LASTERR; a FETCH clears CST_VALID and a POLL clears
POLL_VALID. -/
def accept (o : Op) (s : State) : State :=
  { s with
    op := o
    busy := true
    result := ⟨false, false, .none⟩
    lastErr := .timeout
    cstValid := s.cstValid && o != .fetch
    pollValid := s.pollValid && o != .poll }

/-- The register writes common to every return: the engine is idle again (R140). -/
def goIdle (s : State) : State := { s with seq := .idle, sub := .none, busy := false }

/-- `return ok` (R140); the output files are written by the operation before it calls this. -/
def returnOk (s : State) : State := { goIdle s with result := ⟨true, true, .none⟩ }

/-- `return err(K)` (R140, R236): this machine's error entry. No state is saved and control goes nowhere special: the
operation ends with a status, and the client may start another. -/
def returnErr (k : ErrKind) (s : State) : State := { goIdle s with result := ⟨true, false, k⟩ }

end Sys2Proof.Machine
end

