-- ==== Sys2Proof/Machine/Ops.lean ====
section
/-! DEFINITION. The named operations on the state: the sequencer primitives of spec/41_primitives.md, each split where the
sequencer stands at a wait-point (R130) into what issues the request and what the answer does. `raise` inside a loop and the
returns, which stand in the place of exceptions (spec/60_exceptions.md R236), are `raiseErr` here and `returnOk`, `returnErr`
in Machine/Flags.lean. -/

namespace Sys2Proof.Machine

/-- Ask something of the outside. -/
def emit (r : Request) (s : State) : State := { s with requests := s.requests ++ [r] }

/-- Stand at a wait-point (R11). -/
def standAt (l : Label) (u : Sub) (s : State) : State := { s with seq := l, sub := u }

/-- Issue `MemRead(CHAN, n)` at a label, `n` the label's (R43, R45). -/
def issueRead (l : Label) (s : State) : State := emit (.read (readLen l)) (standAt l .rd s)

/-- Issue the one-byte `MemWrite` of a label (R46, R131, R132). -/
def issueWrite (l : Label) (s : State) : State := emit (.write (outByte (standAt l .wr s))) (standAt l .wr s)

/-- Start `Delay(n)` at a label: the delay timer is loaded with `n` (R134, R246). -/
def beginDelay (l : Label) (n : Nat) (s : State) : State :=
  emit (.delay n) { standAt l .dly s with timer := BitVec.ofNat 6 n }

/-- `SetRto(mult, const)`: the pair is written and handed to the Transport in one step (R135). -/
def setRto (m c : Half) (s : State) : State := emit (.setReadTimeout m c) { s with rtoMult := m, rtoConst := c }

/-- The start of `WaitSeq` at a label: the pair `(0, T)`, the counters, the first read (R136). -/
def beginWait (l : Label) (s : State) : State :=
  issueRead l { setRto 0 (waitBound l) s with matched := 0, skip := 0 }

/-- The start of `TxFrame` at a label: IDX, the first write (R132). -/
def beginFrame (l : Label) (s : State) : State := issueWrite l { s with idx := 0 }

/-- The start of `SendCommand(c)` at a label: CMDB, then the transmission (R137). -/
def sendCommand (l : Label) (c : Byte) (s : State) : State := beginFrame l { s with cmdb := vecOf 3 (cmdFrame c) }

/-- `raise K` inside a bounded attempt loop: `LASTERR <- K`; the caller goes on with the next attempt (R141, R236). -/
def raiseErr (k : ErrKind) (s : State) : State := { s with lastErr := k }

/-- The head of a bounded attempt loop: the next attempt while TRY < 3, else what follows the exhausted loop (R141). -/
def attemptLoop (attempt exhausted : State → State) (s : State) : State :=
  if s.tries.toNat < attempts then attempt { s with tries := s.tries + 1 } else exhausted s

/-- What a primitive returns to its operation (R130). -/
inductive Verdict where
  | ok
  | err (k : ErrKind)
  deriving DecidableEq, Repr

/-- Where a primitive is after an answer: it has issued its next request, or it returns. -/
inductive Progress where
  | more
  | done (v : Verdict)
  deriving DecidableEq, Repr

/-- The body of `WaitSeq` at the current label: what one answered read does, `none` being the answer `fail` (R136). -/
def waitAnswer (r : Option Byte) (s : State) : Progress × State :=
  match r with
  | none => (.done (.err .timeout), s)
  | some b =>
    if (awaited s.seq)[s.matched.toNat]? = some b then
      if (s.matched + 1).toNat = (awaited s.seq).length then (.done .ok, { s with matched := s.matched + 1 })
      else (.more, issueRead s.seq { s with matched := s.matched + 1 })
    else if s.skip = s.params.waitSkipMax then
      if 1 < (awaited s.seq).length ∧ 1 ≤ s.matched.toNat then (.done (.err .protocolViolation), s)
      else (.done (.err .timeout), s)
    else
      (.more,
        issueRead s.seq
          { s with skip := s.skip + 1, matched := if (awaited s.seq).head? = some b then 1 else 0 })

/-- The body of `TxFrame` at the current label: what one answered write does (R132). -/
def frameAnswer (ok : Bool) (s : State) : Progress × State :=
  if ok then
    if (s.idx + 1).toNat = (outFrame s).length then (.done .ok, { s with idx := s.idx + 1 })
    else (.more, beginDelay s.seq gapMs { s with idx := s.idx + 1 })
  else (.done (.err .shortTransfer), s)

/-- `TxByte`: what the answered write returns (R131). -/
def byteAnswer (ok : Bool) : Verdict := if ok then .ok else .err .shortTransfer

end Sys2Proof.Machine
end

