-- ==== Sys2Proof/Machine/Fetch.lean ====
section
/-! DEFINITION. Family 4, FETCH (spec/43_fetch.md R170 to R173): the pseudocode of R170 cut at its wait-points. -/

namespace Sys2Proof.Machine

/-- The pseudocode from its first line: the first command. -/
def feBegin (s : State) : State := sendCommand .feC36Tx prefetchCode s

/-- The head of the frame loop: the next attempt waits for SYNC; after the third, `return err(LASTERR)`. -/
def feLoop (s : State) : State := attemptLoop (beginWait .feSync) (fun t => returnErr t.lastErr t) s

/-- After the first command's transmission: a failure ends FETCH at once. -/
def feAfterSend36 (v : Verdict) (s : State) : State :=
  match v with
  | .ok => beginWait .feC36Ack s
  | .err k => returnErr k s

/-- After the first command's acknowledge wait. -/
def feAfterAck36 (v : Verdict) (s : State) : State :=
  match v with
  | .ok => sendCommand .feC23Tx fetchCode s
  | .err k => returnErr k s

/-- After the second command's transmission. -/
def feAfterSend23 (v : Verdict) (s : State) : State :=
  match v with
  | .ok => beginWait .feC23Ack s
  | .err k => returnErr k s

/-- After the second command's acknowledge wait: the frame loop begins. -/
def feAfterAck23 (v : Verdict) (s : State) : State :=
  match v with
  | .ok => feLoop { s with tries := 0 }
  | .err k => returnErr k s

/-- After the wait for SYNC: the read timeout of the frame, then the seed. -/
def feAfterSync (v : Verdict) (s : State) : State :=
  match v with
  | .ok => issueRead .feSeed (setRto 42 440 s)
  | .err _ => feLoop (raiseErr .timeout s)

/-- After the seed read: CK starts from the seed (R171). -/
def feAfterSeed (r : Option (List Byte)) (s : State) : State :=
  match r with
  | some bs => issueRead .fePayload { s with ck := bs.headD 0 }
  | none => feLoop (raiseErr .shortTransfer s)

/-- After the payload read: RXB and CK. -/
def feAfterPayload (r : Option (List Byte)) (s : State) : State :=
  match r with
  | some bs => issueRead .feTrail { s with rxb := vecOf 21 bs, ck := s.ck ^^^ fold bs }
  | none => feLoop (raiseErr .shortTransfer s)

/-- After the trailing read: the checksum test; a frame that fails it is not acknowledged (R170 (b)). -/
def feAfterTrail (r : Option (List Byte)) (s : State) : State :=
  match r with
  | some bs =>
    if ckCheck s.ck (bs.headD 0) then issueWrite .feAckTx s else feLoop (raiseErr .checksumMismatch s)
  | none => feLoop (raiseErr .shortTransfer s)

/-- After the acknowledge write: CST is written only when it succeeded (R170 (c)). -/
def feAfterAck (v : Verdict) (s : State) : State :=
  match v with
  | .ok => returnOk { s with cst := decodeCst s.rxb, cstValid := true }
  | .err _ => feLoop (raiseErr .shortTransfer s)

/-- FETCH (operation code 2) (R139, R170). -/
def execFetch (s : State) : Host.Outcome State Fault Refusal :=
  .next (if s.busy then s else feBegin (accept .fetch s))

end Sys2Proof.Machine
end

