-- ==== Sys2Proof/Machine/Handshake.lean ====
section
/-! DEFINITION. Family 3, HANDSHAKE and TEARDOWN (spec/42_handshake.md R150 to R156): the pseudocode of R150 cut at its
wait-points. TEARDOWN is the same procedure with every return turned into `return ok` (R156). -/

namespace Sys2Proof.Machine

/-- Label `pass:`, the start of a pass: step 1, the probe (R150). -/
def hsPass (s : State) : State := beginWait .hsProbe { s with hsState := .awaitingSync }

/-- The pseudocode from its first line (R150). -/
def hsBegin (s : State) : State := hsPass { s with pass := 0 }

/-- Label `synced:` (R150). -/
def hsSynced (s : State) : State := returnOk { s with hsState := .synchronized }

/-- Step 3, reached with or without an acknowledge (R150 (a)). -/
def hsStep3 (s : State) : State := beginWait .hsSync { s with hsState := .awaitingSync }

/-- The loop of step 2: the next reset command, or step 3 after the third (R150). -/
def hsResetLoop (s : State) : State :=
  attemptLoop (fun t => sendCommand .hsRstTx resetCode { t with hsState := .resettingSent }) hsStep3 s

/-- After the wait of step 1. -/
def hsAfterProbe (v : Verdict) (s : State) : State :=
  match v with
  | .ok => hsSynced s
  | .err _ => hsResetLoop { s with tries := 0 }

/-- After the transmission of a reset command: a failed one uses up its attempt and skips the wait (R150 (b)). -/
def hsAfterSend (v : Verdict) (s : State) : State :=
  match v with
  | .ok => beginWait .hsRstAck s
  | .err _ => hsResetLoop s

/-- After the wait for the acknowledge of a reset command. -/
def hsAfterAck (v : Verdict) (s : State) : State :=
  match v with
  | .ok => hsStep3 s
  | .err _ => hsResetLoop s

/-- After the wait of step 3: a failed pass writes the nudge. -/
def hsAfterSync (v : Verdict) (s : State) : State :=
  match v with
  | .ok => hsSynced s
  | .err _ => issueWrite .hsNudge s

/-- The failed end of the procedure: `err(Timeout)` for HANDSHAKE, `ok` for TEARDOWN (R150, R156). -/
def hsFailed (s : State) : State :=
  if s.op = .teardown then returnOk { s with hsState := .idle } else returnErr .timeout { s with hsState := .idle }

/-- After the nudge, whose result is ignored (R150 (c)): the next pass while PASS < HS_PASSES. -/
def hsAfterNudge (s : State) : State :=
  if s.pass + 1 < passesOf s.params then hsPass { s with pass := s.pass + 1 } else hsFailed { s with pass := s.pass + 1 }

/-- HANDSHAKE (operation code 1): a start while BUSY changes nothing (R139, R150). -/
def execHandshake (s : State) : Host.Outcome State Fault Refusal :=
  .next (if s.busy then s else hsBegin (accept .handshake s))

/-- TEARDOWN (operation code 5) (R139, R156). -/
def execTeardown (s : State) : Host.Outcome State Fault Refusal :=
  .next (if s.busy then s else hsBegin (accept .teardown s))

end Sys2Proof.Machine
end

