-- ==== Sys2Proof/Machine/Poll.lean ====
section
/-! DEFINITION. Family 6, POLL and the event decoder (spec/45_poll.md R200 to R220): the pseudocode of R200 cut at its
wait-points, and the twelve rawid rows of the table. A rawid row is an instruction of the classifier: it is POLL's last part,
from the line `d <- DecodeEvent(...)` on, for a frame with that raw id in byte 4 (notes/assumptions/14.md). -/

namespace Sys2Proof.Machine

/-- The pseudocode from its first line. -/
def poBegin (s : State) : State := beginWait .poSync s

/-- After the wait for SYNC: POLL does not retry, whatever failed; the read inherits the pair `(0, 100)` (R200, R276). -/
def poAfterSync (v : Verdict) (s : State) : State :=
  match v with
  | .ok => issueRead .poPayload s
  | .err _ => returnErr .timeout s

/-- RXB[0..7] written, RXB[8..20] unchanged (R16). -/
def storePoll (bs : List Byte) (rxb : Vector Byte 21) : Vector Byte 21 := vecOf 21 (bs.take 8 ++ rxb.toList.drop 8)

/-- After the payload read: RXB, CK and the fold test; a frame that fails it is not acknowledged. -/
def poAfterPayload (r : Option (List Byte)) (s : State) : State :=
  match r with
  | some bs =>
    if fold bs = 0x7F then issueWrite .poAckTx { s with rxb := storePoll bs s.rxb, ck := fold bs }
    else returnErr .checksumMismatch { s with rxb := storePoll bs s.rxb, ck := fold bs }
  | none => returnErr .shortTransfer s

/-- The last part of R200: an invalid frame is a protocol violation and writes nothing; a valid one writes MOT, EVT and
POLL_VALID. -/
def pollFinish (d : Option EventRec) (s : State) : State :=
  match d with
  | none => returnErr .protocolViolation s
  | some e => returnOk { s with mot := decodeMotion s.rxb, evt := e, pollValid := true }

/-- After the acknowledge write: the classification of RXB[4..6] (R208). -/
def poAfterAck (v : Verdict) (s : State) : State :=
  match v with
  | .ok => pollFinish (decodeEvent s.params s.rxb[4] s.rxb[5] s.rxb[6]) s
  | .err _ => returnErr .shortTransfer s

/-- POLL (operation code 4) (R139, R200). -/
def execPoll (s : State) : Host.Outcome State Fault Refusal :=
  .next (if s.busy then s else poBegin (accept .poll s))

/-- ID_NONE, raw id 0x00 (R210). -/
def execIdNone (s : State) : Host.Outcome State Fault Refusal := .next (pollFinish armNone s)

/-- ID_INVALID_01, raw id 0x01 (R218). -/
def execIdInvalid01 (s : State) : Host.Outcome State Fault Refusal := .next (pollFinish armInvalid s)

/-- ID_COURSE_SELECTOR, raw id 0x02, class Knob (R212). -/
def execIdCourseSelector (s : State) : Host.Outcome State Fault Refusal :=
  .next (pollFinish (armKnob 0x02 s.rxb[5] s.rxb[6]) s)

/-- ID_NAV1_ON, raw id 0x18, class Toggle (R215). -/
def execIdNav1On (s : State) : Host.Outcome State Fault Refusal := .next (pollFinish (armToggle 0x18 s.rxb[5]) s)

/-- ID_THROTTLE, raw id 0x38, class Slider (R217). -/
def execIdThrottle (s : State) : Host.Outcome State Fault Refusal := .next (pollFinish (armSlider 0x38 s.rxb[5]) s)

/-- ID_TRIM, raw id 0x3E, class Trim (R211). -/
def execIdTrim (s : State) : Host.Outcome State Fault Refusal := .next (pollFinish (armTrim 0x3E s.rxb[5]) s)

/-- ID_INVALID_4D, raw id 0x4D (R218). -/
def execIdInvalid4D (s : State) : Host.Outcome State Fault Refusal := .next (pollFinish armInvalid s)

/-- ID_INVALID_4E_4F, raw ids 0x4E and 0x4F (R218). -/
def execIdInvalid4E4F (_low : BitVec 1) (s : State) : Host.Outcome State Fault Refusal := .next (pollFinish armInvalid s)

/-- ID_INVALID_50_5F, raw ids 0x50 to 0x5F (R218). -/
def execIdInvalid505F (_low : BitVec 4) (s : State) : Host.Outcome State Fault Refusal := .next (pollFinish armInvalid s)

/-- ID_INVALID_60_7F, raw ids 0x60 to 0x7F (R218). -/
def execIdInvalid607F (_low : BitVec 5) (s : State) : Host.Outcome State Fault Refusal := .next (pollFinish armInvalid s)

/-- ID_INVALID_80_FF, raw ids 0x80 to 0xFF (R218). -/
def execIdInvalid80FF (_low : BitVec 7) (s : State) : Host.Outcome State Fault Refusal := .next (pollFinish armInvalid s)

/-- ID_OTHER, every raw id no other row matches: the arm of ID_CLASS(id) (R85, R208). -/
def execIdOther (id : Byte) (s : State) : Host.Outcome State Fault Refusal :=
  .next (pollFinish (decodeEvent s.params id s.rxb[5] s.rxb[6]) s)

end Sys2Proof.Machine
end

