-- ==== Sys2Proof/Machine/Setup.lean ====
section
/-! DEFINITION. Family 5, SETUP (spec/44_setup.md R186 to R188): the pseudocode of R186 cut at its wait-points. -/

namespace Sys2Proof.Machine

/-- The head of stage 1: the next attempt waits for the cue; after the third, `return err(LASTERR)`. -/
def suCueLoop (s : State) : State := attemptLoop (beginWait .suCue) (fun t => returnErr t.lastErr t) s

/-- The head of stage 2: the next attempt sends the setup write; after the third, `return err(LASTERR)`. -/
def suWriteLoop (s : State) : State := attemptLoop (beginFrame .suWrTx) (fun t => returnErr t.lastErr t) s

/-- The first line: the CS file is encoded once, and CK keeps the fold of the content (R112, R186 (a)). -/
def suEncode (s : State) : State :=
  { s with
    txb := encodeSetup (layoutOf s.params) s.cs
    ck := fold (setupContent (layoutOf s.params) s.cs) }

/-- The pseudocode from its first line. -/
def suBegin (s : State) : State := suCueLoop { suEncode s with tries := 0 }

/-- After the cue wait: its failure is recorded with its kind and retried (R186 (f)). -/
def suAfterCue (v : Verdict) (s : State) : State :=
  match v with
  | .ok => issueWrite .suCueAckTx s
  | .err k => suCueLoop (raiseErr k s)

/-- After the acknowledge of the cue: the settle delay only if it was written (R186 (b), (c)). -/
def suAfterCueAck (v : Verdict) (s : State) : State :=
  match v with
  | .ok => beginDelay .suSettle settleMs s
  | .err _ => suCueLoop (raiseErr .shortTransfer s)

/-- After the settle delay: stage 2, with attempts of its own. -/
def suAfterSettle (s : State) : State := suWriteLoop { s with tries := 0 }

/-- After the setup write. -/
def suAfterWrite (v : Verdict) (s : State) : State :=
  match v with
  | .ok => beginWait .suWrAck s
  | .err _ => suWriteLoop (raiseErr .shortTransfer s)

/-- After the wait for the setup write's acknowledge. -/
def suAfterWriteAck (v : Verdict) (s : State) : State :=
  match v with
  | .ok => returnOk s
  | .err _ => suWriteLoop (raiseErr .timeout s)

/-- SETUP (operation code 3) (R139, R186). -/
def execSetup (s : State) : Host.Outcome State Fault Refusal :=
  .next (if s.busy then s else suBegin (accept .setup s))

end Sys2Proof.Machine
end

