-- ==== Sys2Proof/Machine/Sequencer.lean ====
section
/-! DEFINITION. The sequencer between two wait-points (spec/41_primitives.md R130): when the response to the outstanding request
comes, the primitive does its bookkeeping and the operation goes on to its next request or returns, in one atomic step. A
response that does not fit what is outstanding changes nothing (notes/assumptions/18.md). -/

namespace Sys2Proof.Machine

/-- Where an operation goes on when the wait at the current label returns. -/
def afterWait (v : Verdict) (s : State) : State :=
  match s.seq with
  | .hsProbe => hsAfterProbe v s
  | .hsRstAck => hsAfterAck v s
  | .hsSync => hsAfterSync v s
  | .feC36Ack => feAfterAck36 v s
  | .feC23Ack => feAfterAck23 v s
  | .feSync => feAfterSync v s
  | .suCue => suAfterCue v s
  | .suWrAck => suAfterWriteAck v s
  | .poSync => poAfterSync v s
  | _ => s

/-- Where an operation goes on when the transmission at the current label returns. -/
def afterFrame (v : Verdict) (s : State) : State :=
  match s.seq with
  | .hsRstTx => hsAfterSend v s
  | .feC36Tx => feAfterSend36 v s
  | .feC23Tx => feAfterSend23 v s
  | .suWrTx => suAfterWrite v s
  | _ => s

/-- Where an operation goes on when the single ACK at the current label is answered. -/
def afterByte (v : Verdict) (s : State) : State :=
  match s.seq with
  | .hsNudge => hsAfterNudge s
  | .feAckTx => feAfterAck v s
  | .suCueAckTx => suAfterCueAck v s
  | .poAckTx => poAfterAck v s
  | _ => s

/-- A primitive that goes on has issued its request already; one that returns hands its verdict to the operation. -/
def goOn (after : Verdict → State → State) (r : Progress × State) : State :=
  match r.1 with
  | .more => r.2
  | .done v => after v r.2

/-- The answer to the outstanding read: the bytes, or `none` for `fail` (R45, R133, R136). -/
def answerRead (r : Option (List Byte)) (s : State) : State :=
  match s.seq with
  | .feSeed => feAfterSeed r s
  | .fePayload => feAfterPayload r s
  | .feTrail => feAfterTrail r s
  | .poPayload => poAfterPayload r s
  | _ => goOn afterWait (waitAnswer (r.map fun bs => bs.headD 0) s)

/-- The answer to the outstanding write (R46, R131, R132). -/
def answerWrite (ok : Bool) (s : State) : State :=
  if sendsFrame s.seq then goOn afterFrame (frameAnswer ok s) else afterByte (byteAnswer ok) s

/-- The end of the running delay: the settle delay of SETUP, or a gap, after which the next byte is written (R132, R186). -/
def endDelay (s : State) : State :=
  match s.seq with
  | .suSettle => suAfterSettle { s with timer := 0 }
  | _ => issueWrite s.seq { s with timer := 0 }

/-- The 1 ms tick: the delay timer counts down, and the delay ends with its last tick (R134, R246). Outside a delay the timer
is idle. -/
def tick (s : State) : State :=
  if s.sub = .dly then if 1 < s.timer then { s with timer := s.timer - 1 } else endDelay s else s

/-- Whether the Transport holds the bytes of the outstanding read (R44). -/
def readReady (s : State) : Bool := s.sub == .rd && decide (readLen s.seq ≤ s.held.length)

/-- The Transport delivers the bytes of the outstanding read, oldest first; a delivered byte is consumed (R43, R54). -/
def deliver (s : State) : State :=
  answerRead (some (s.held.take (readLen s.seq))) { s with held := s.held.drop (readLen s.seq) }

/-- The Transport answers with success: a write is accepted, a read gets its bytes if the Transport holds them, and otherwise
goes on waiting (R45, R46). -/
def grant (s : State) : State :=
  match s.sub with
  | .rd => if readReady s then deliver s else s
  | .wr => answerWrite true s
  | .none => s
  | .dly => s

/-- The Transport answers `fail`; after a failed read nothing is known of what it held, so any number of bytes may be gone
(R45, R46). -/
def deny (lost : Nat) (s : State) : State :=
  match s.sub with
  | .rd => answerRead none { s with held := s.held.drop lost }
  | .wr => answerWrite false s
  | .none => s
  | .dly => s

/-- The Transport delivers to one outstanding read after another while it holds their bytes; `fuel` bounds the reads. -/
def deliverAll (fuel : Nat) (s : State) : State :=
  match fuel with
  | 0 => s
  | fuel + 1 => if readReady s then deliverAll fuel (deliver s) else s

/-- Bytes arrive at the Transport and answer the outstanding reads as far as they reach. What is left is held, and is the first
thing the next read examines (R55, R134, R277). -/
def arrive (bs : List Byte) (s : State) : State :=
  deliverAll (s.held.length + bs.length) { s with held := s.held ++ bs }

end Sys2Proof.Machine
end

