-- ==== Sys2Proof/Machine/Channel.lean ====
section
/-! DEFINITION. The eleven rows of the table that stand on the channel: the single-byte codes and the frames of
spec/30_encoding.md sections 1 to 5. As an instruction such a row is the transfer of its bytes on the half-duplex channel
(notes/assumptions/13.md): where the engine is itself sending exactly these bytes they go out, every write accepted and every
gap between them waited out; otherwise they come in, and the engine's outstanding reads take them. -/

namespace Sys2Proof.Machine

/-- The writes of a transmission accepted one after another, each gap waited out; `n` bytes go out. -/
def sendBytes (n : Nat) (s : State) : State :=
  match n with
  | 0 => s
  | 1 => answerWrite true s
  | n + 2 => sendBytes (n + 1) (endDelay (answerWrite true s))

/-- The engine stands before the first byte of this multi-byte transmission (R132). -/
def aboutToSend (frame : List Byte) (s : State) : Bool :=
  s.sub == .wr && sendsFrame s.seq && s.idx == 0 && outFrame s == frame

/-- A host-to-console frame passes: out if the engine is about to send it, in otherwise. -/
def passFrame (frame : List Byte) (s : State) : State :=
  if aboutToSend frame s then sendBytes frame.length s else arrive frame s

/-- SYNC (0xA5): as the first byte of a transmission the engine's write of it is accepted; otherwise it arrives (R60). -/
def execSync (s : State) : Host.Outcome State Fault Refusal :=
  .next (if s.sub == .wr && sendsFrame s.seq && s.idx == 0 && outByte s == syncByte then answerWrite true s
    else arrive [syncByte] s)

/-- ACK (0x06): where the engine is sending a single ACK, the write is accepted; otherwise it arrives (R60, R131, R136). -/
def execAck (s : State) : Host.Outcome State Fault Refusal :=
  .next (if s.sub == .wr && sendsAck s.seq then answerWrite true s else arrive [ackByte] s)

/-- IDLE_SYNC (0x58), console to host (R60). -/
def execIdleSync (s : State) : Host.Outcome State Fault Refusal := .next (arrive [idleByte] s)

/-- CMD, the generic command frame (R62, R101). -/
def execCmd (c k : Byte) (s : State) : Host.Outcome State Fault Refusal := .next (passFrame [syncByte, c, k] s)

/-- CMD_RESET, the command frame A5 16 4C (R63, R150). -/
def execCmdReset (s : State) : Host.Outcome State Fault Refusal := .next (passFrame (cmdFrame resetCode) s)

/-- CMD_PREFETCH, the command frame A5 36 6C (R63, R170). -/
def execCmdPrefetch (s : State) : Host.Outcome State Fault Refusal := .next (passFrame (cmdFrame prefetchCode) s)

/-- CMD_FETCH, the command frame A5 23 79 (R63, R170). -/
def execCmdFetch (s : State) : Host.Outcome State Fault Refusal := .next (passFrame (cmdFrame fetchCode) s)

/-- CUE, the setup cue A5 23 5C, console to host (R74, R186). -/
def execCue (s : State) : Host.Outcome State Fault Refusal := .next (arrive cueBytes s)

/-- CST_FRAME, the controls-state frame, console to host (R70, R170). -/
def execCstFrame (seed : Byte) (record : Vector Byte 21) (trailing : Byte) (s : State) :
    Host.Outcome State Fault Refusal :=
  .next (arrive (syncByte :: seed :: (record.toList ++ [trailing])) s)

/-- SETUP_WRITE, the setup write, host to console (R75, R186). -/
def execSetupWrite (content : Vector Byte 31) (ck : Byte) (s : State) : Host.Outcome State Fault Refusal :=
  .next (passFrame (setupHeader ++ (content.toList ++ [ck])) s)

/-- POLL_FRAME, the poll frame, console to host (R80, R200). -/
def execPollFrame (flags pitchMag rollMag yawMag rawId v1 v2 check : Byte) (s : State) :
    Host.Outcome State Fault Refusal :=
  .next (arrive [syncByte, flags, pitchMag, rollMag, yawMag, rawId, v1, v2, check] s)

/-- Bytes on the channel that are no well-formed row of the table: they arrive like any others (R92). -/
def otherBytes (bs : List Byte) (s : State) : Host.Outcome State Fault Refusal := .next (arrive bs s)

end Sys2Proof.Machine
end

