-- ==== Sys2Proof/Machine/Client.lean ====
section
/-! DEFINITION. The client's side (spec/10_state.md R29, spec/60_exceptions.md R245): writing a field of CS, the start requests
with a reserved operation code, the reset input, and what the client can read. -/

namespace Sys2Proof.Machine

/-- The integer byte of a pair of CS written. -/
def setPairInt (cs : ConsoleState) (p : PairName) (v : Byte) : ConsoleState :=
  match p with
  | .nav1Stby => { cs with nav1Stby := ⟨v, cs.nav1Stby.frac⟩ }
  | .nav1Cur => { cs with nav1Cur := ⟨v, cs.nav1Cur.frac⟩ }
  | .nav2Stby => { cs with nav2Stby := ⟨v, cs.nav2Stby.frac⟩ }
  | .nav2Cur => { cs with nav2Cur := ⟨v, cs.nav2Cur.frac⟩ }
  | .adfStby => { cs with adfStby := ⟨v, cs.adfStby.frac⟩ }
  | .adfCur => { cs with adfCur := ⟨v, cs.adfCur.frac⟩ }
  | .unk => { cs with unk := ⟨v, cs.unk.frac⟩ }
  | .com => { cs with com := ⟨v, cs.com.frac⟩ }

/-- The fractional byte of a pair of CS written. -/
def setPairFrac (cs : ConsoleState) (p : PairName) (v : Byte) : ConsoleState :=
  match p with
  | .nav1Stby => { cs with nav1Stby := ⟨cs.nav1Stby.int, v⟩ }
  | .nav1Cur => { cs with nav1Cur := ⟨cs.nav1Cur.int, v⟩ }
  | .nav2Stby => { cs with nav2Stby := ⟨cs.nav2Stby.int, v⟩ }
  | .nav2Cur => { cs with nav2Cur := ⟨cs.nav2Cur.int, v⟩ }
  | .adfStby => { cs with adfStby := ⟨cs.adfStby.int, v⟩ }
  | .adfCur => { cs with adfCur := ⟨cs.adfCur.int, v⟩ }
  | .unk => { cs with unk := ⟨cs.unk.int, v⟩ }
  | .com => { cs with com := ⟨cs.com.int, v⟩ }

/-- A 16-bit setting of CS written. -/
def setSetting (cs : ConsoleState) (n : SettingName) (v : Half) : ConsoleState :=
  match n with
  | .nav1Crs => { cs with nav1Crs := v }
  | .nav2Obs => { cs with nav2Obs := v }
  | .adfBrg => { cs with adfBrg := v }
  | .baro => { cs with baro := v }
  | .apHdg => { cs with apHdg := v }

/-- One client write of a field of CS (R24). -/
def writeField (w : CsWrite) (cs : ConsoleState) : ConsoleState :=
  match w with
  | .radioSel v => { cs with radioSel := v }
  | .pairInt p v => setPairInt cs p v
  | .pairFrac p v => setPairFrac cs p v
  | .setting n v => setSetting cs n v
  | .opaqueByte i v => { cs with opaqueBytes := cs.opaqueBytes.set i v }

/-- A client write of CS is accepted at any time; a running SETUP does not see it, because it sends from TXB (R24, R52). -/
def clientWrite (w : CsWrite) (s : State) : State := { s with cs := writeField w s.cs }

/-- The reset input (R260, R261): every register at its reset value, any outstanding request or delay abandoned, the two
timeout requests issued. What the Transport holds and what the outside does next are not the engine's and stay. -/
def resetInput (s : State) : State :=
  { State.resetWith s.params with
    held := s.held
    inbox := s.inbox
    requests := s.requests ++ [.setWriteTimeout s.params.wtoMultInit, .setReadTimeout 0 0] }

/-- OP_RESERVED_0: a start request with code 0 is ignored (R95). -/
def execOpReserved0 (s : State) : Host.Outcome State Fault Refusal := .next s

/-- OP_RESERVED_6_7: a start request with code 6 or 7 is ignored (R95). -/
def execOpReserved67 (_low : BitVec 1) (s : State) : Host.Outcome State Fault Refusal := .next s

/-- What the client can read (R29). An output file under a clear valid flag has no value (R31). -/
structure ClientView where
  busy : Bool
  op : Op
  hsState : HsState
  result : ResultReg
  cst : Option (Vector Byte 21)
  mot : Option Motion
  evt : Option EventRec
  deriving DecidableEq, Repr

/-- The client's reads of a state; CST_VALID and POLL_VALID read as whether the files have a value. -/
def clientView (s : State) : ClientView where
  busy := s.busy
  op := s.op
  hsState := s.hsState
  result := s.result
  cst := if s.cstValid then some s.cst else none
  mot := if s.pollValid then some s.mot else none
  evt := if s.pollValid then some s.evt else none

/-- The 3-bit code of OP (R12). -/
def opCode : Op → BitVec 3
  | .none => 0
  | .handshake => 1
  | .fetch => 2
  | .setup => 3
  | .poll => 4
  | .teardown => 5

/-- The 3-bit code of an error kind (R230). -/
def errCode : ErrKind → BitVec 3
  | .none => 0
  | .timeout => 1
  | .checksumMismatch => 2
  | .shortTransfer => 3
  | .protocolViolation => 4

/-- The 2-bit code of HS_STATE (R22). -/
def hsCode : HsState → BitVec 2
  | .idle => 0
  | .awaitingSync => 1
  | .resettingSent => 2
  | .synchronized => 3

/-- The 3-bit code of EVT.TAG (R27). -/
def tagCode : EventTag → BitVec 3
  | .none => 0
  | .button => 1
  | .slider => 2
  | .switch => 3
  | .toggle => 4
  | .knob => 5

/-- The 2-bit code of SUB (R11). -/
def subCode : Sub → BitVec 2
  | .none => 0
  | .rd => 1
  | .wr => 2
  | .dly => 3

/-- The code of a label of SEQ, 0 to 22 (R11). -/
def labelCode : Label → Nat
  | .idle => 0
  | .hsProbe => 1
  | .hsRstTx => 2
  | .hsRstAck => 3
  | .hsSync => 4
  | .hsNudge => 5
  | .feC36Tx => 6
  | .feC36Ack => 7
  | .feC23Tx => 8
  | .feC23Ack => 9
  | .feSync => 10
  | .feSeed => 11
  | .fePayload => 12
  | .feTrail => 13
  | .feAckTx => 14
  | .suCue => 15
  | .suCueAckTx => 16
  | .suSettle => 17
  | .suWrTx => 18
  | .suWrAck => 19
  | .poSync => 20
  | .poPayload => 21
  | .poAckTx => 22

end Sys2Proof.Machine
end

