-- ==== Sys2Proof/Machine/Dispatch.lean ====
section
/-! DEFINITION. The meaning of every instruction: one arm per row of the opcode table, each one call. -/

namespace Sys2Proof.Machine

def exec (i : Instr) (s : State) : Host.Outcome State Fault Refusal :=
  match i with
  | .handshake => Sys2Proof.Machine.execHandshake s
  | .fetch => Sys2Proof.Machine.execFetch s
  | .setup => Sys2Proof.Machine.execSetup s
  | .poll => Sys2Proof.Machine.execPoll s
  | .teardown => Sys2Proof.Machine.execTeardown s
  | .opReserved0 => Sys2Proof.Machine.execOpReserved0 s
  | .opReserved67 low => Sys2Proof.Machine.execOpReserved67 low s
  | .sync => Sys2Proof.Machine.execSync s
  | .ack => Sys2Proof.Machine.execAck s
  | .idleSync => Sys2Proof.Machine.execIdleSync s
  | .cmd c k => Sys2Proof.Machine.execCmd c k s
  | .cmdReset => Sys2Proof.Machine.execCmdReset s
  | .cmdPrefetch => Sys2Proof.Machine.execCmdPrefetch s
  | .cmdFetch => Sys2Proof.Machine.execCmdFetch s
  | .cue => Sys2Proof.Machine.execCue s
  | .cstFrame seed record trailing => Sys2Proof.Machine.execCstFrame seed record trailing s
  | .setupWrite content ck => Sys2Proof.Machine.execSetupWrite content ck s
  | .pollFrame flags pitchMag rollMag yawMag rawId v1 v2 check => Sys2Proof.Machine.execPollFrame flags pitchMag rollMag yawMag rawId v1 v2 check s
  | .idNone => Sys2Proof.Machine.execIdNone s
  | .idInvalid01 => Sys2Proof.Machine.execIdInvalid01 s
  | .idCourseSelector => Sys2Proof.Machine.execIdCourseSelector s
  | .idNav1On => Sys2Proof.Machine.execIdNav1On s
  | .idThrottle => Sys2Proof.Machine.execIdThrottle s
  | .idTrim => Sys2Proof.Machine.execIdTrim s
  | .idInvalid4D => Sys2Proof.Machine.execIdInvalid4D s
  | .idInvalid4E4F low => Sys2Proof.Machine.execIdInvalid4E4F low s
  | .idInvalid505F low => Sys2Proof.Machine.execIdInvalid505F low s
  | .idInvalid607F low => Sys2Proof.Machine.execIdInvalid607F low s
  | .idInvalid80FF low => Sys2Proof.Machine.execIdInvalid80FF low s
  | .idOther id => Sys2Proof.Machine.execIdOther id s

end Sys2Proof.Machine
end

