-- ==== Sys2Proof/Machine/Step.lean ====
section
/-! DEFINITION. One step: the next thing the outside does (notes/assumptions/1.md). A start request is decoded on the client's
port, the bytes of a transfer on the channel, and the instruction runs; a raw control id is decoded and runs where the engine
classifies a poll frame. With nothing next the engine does nothing: an idle engine stays idle (spec/70_reset_and_hazards.md
R262), and one at a wait-point waits (spec/10_state.md R11). -/

namespace Sys2Proof.Machine

/-- The engine is about to classify the poll frame in RXB once its acknowledge is accepted (R200). -/
def classifies (s : State) : Bool := s.seq == .poAckTx && s.sub == .wr

/-- A transfer on the channel: a well-formed row of the table runs, other bytes just arrive. -/
def runFrame (bs : List Byte) (s : State) : Host.Outcome State Fault Refusal :=
  match decode .channel bs with
  | .ok i => if i.wf then exec i s else otherBytes bs s
  | .error _ => otherBytes bs s

/-- One thing the outside does. -/
def handle (e : Input) (s : State) : Host.Outcome State Fault Refusal :=
  match e with
  | .start code => exec (decodeOp code) s
  | .writeCs w => .next (clientWrite w s)
  | .frame bs => runFrame bs s
  | .grant => if classifies s then exec (decodeRawId s.rxb[4]) s else .next (grant s)
  | .deny lost => .next (deny lost s)
  | .tick => .next (tick s)
  | .reset => .next (resetInput s)

/-- One step of the machine. -/
def step (s : State) : Host.Outcome State Fault Refusal :=
  match s.inbox with
  | [] => .next s
  | e :: rest => handle e { s with inbox := rest }

/-- `s` with an instruction of the classifier next: a poll frame with this raw id in byte 4 has passed its checksum test, and the
acceptance of its acknowledge comes next. -/
def withRawIdNext (s : State) (id : Byte) : State :=
  { s with
    busy := true
    op := .poll
    seq := .poAckTx
    sub := .wr
    rxb := s.rxb.set 4 id
    inbox := .grant :: s.inbox }

/-- `s` with the instruction of a table word where the next step takes it: an operation code as the next start request, the
bytes of a frame as the next transfer, a raw id in byte 4 of a poll frame about to be classified (notes/assumptions/12.md). -/
def State.withFetchWord (s : State) (nbits w : Nat) : State :=
  match tablePort (tableBytes nbits w) with
  | .client => { s with inbox := .start (((tableBytes nbits w).headD 0).setWidth 3) :: s.inbox }
  | .channel => { s with inbox := .frame (tableBytes nbits w) :: s.inbox }
  | .rawId => withRawIdNext s ((tableBytes nbits w).headD 0)

end Sys2Proof.Machine
end

