-- ==== Sys2Proof/Safety.lean ====
section
/-! DEFINITION. What the claims are stated in terms of: which pairs (SEQ, SUB) are wait-points and whose (spec/10_state.md R11),
what is outstanding there, the invariants of the engine's state, the error kinds an operation can report
(spec/60_exceptions.md R231), and the request budget behind the termination bounds (spec/41_primitives.md R142). -/

namespace Sys2Proof.Machine

/-- The SUB values of a label, from the table of R11. -/
def subAllowed (l : Label) (u : Sub) : Bool :=
  match l with
  | .idle => u == .none
  | .suSettle => u == .dly
  | _ => if sendsFrame l then u == .wr || u == .dly else if sendsAck l then u == .wr else u == .rd

/-- The labels of HANDSHAKE and TEARDOWN (R11). -/
def hsLabel (l : Label) : Bool := [Label.hsProbe, .hsRstTx, .hsRstAck, .hsSync, .hsNudge].contains l
/-- The labels of FETCH (R11). -/
def feLabel (l : Label) : Bool :=
  [Label.feC36Tx, .feC36Ack, .feC23Tx, .feC23Ack, .feSync, .feSeed, .fePayload, .feTrail, .feAckTx].contains l
/-- The labels of FETCH's frame loop (R170). -/
def feLoopLabel (l : Label) : Bool := [Label.feSync, .feSeed, .fePayload, .feTrail, .feAckTx].contains l
/-- The labels of SETUP (R11). -/
def suLabel (l : Label) : Bool := [Label.suCue, .suCueAckTx, .suSettle, .suWrTx, .suWrAck].contains l
/-- The labels of POLL (R11). -/
def poLabel (l : Label) : Bool := [Label.poSync, .poPayload, .poAckTx].contains l

/-- The operation column of the table of R11. -/
def runs (o : Op) (l : Label) : Bool :=
  match o with
  | .none => false
  | .handshake => hsLabel l
  | .teardown => hsLabel l
  | .fetch => feLabel l
  | .setup => suLabel l
  | .poll => poLabel l

/-- The duration of the delay at a label (R132, R186). -/
def delayMs (l : Label) : Nat := if l = .suSettle then settleMs else gapMs

/-- What is outstanding (R11): exactly one request or delay at a wait-point, nothing at IDLE. -/
def outstanding (s : State) : Option Request :=
  match s.sub with
  | .none => none
  | .rd => some (.read (readLen s.seq))
  | .wr => some (.write (outByte s))
  | .dly => some (.delay (delayMs s.seq))

/-- The timeout pair the read at a label runs under (R43, R276). -/
def readPair (l : Label) : Half × Half :=
  if l = .feSeed ∨ l = .fePayload ∨ l = .feTrail then (42, 440)
  else if l = .poPayload then (0, 100)
  else (0, waitBound l)

/-- The requests the engine can make: the table of R43, the settings of R20 and R21, the two delays of R134. -/
def allowedRequest (p : Params) : Request → Bool
  | .read n => n == 1 || n == 8 || n == 21
  | .write _ => true
  | .delay n => n == 42 || n == 28
  | .setReadTimeout m c =>
    [((0 : Half), (0 : Half)), (0, 50), (0, 500), (0, 440), (0, 100), (42, 440)].contains (m, c)
  | .setWriteTimeout m => m == p.wtoMultInit

/-- The kinds an operation can report in RESULT.ERR (R231). -/
def canReport (o : Op) (k : ErrKind) : Bool :=
  match o with
  | .none => false
  | .handshake => k == .timeout
  | .teardown => false
  | .fetch => k == .timeout || k == .shortTransfer || k == .checksumMismatch
  | .setup => k == .timeout || k == .shortTransfer || k == .protocolViolation
  | .poll => k == .timeout || k == .shortTransfer || k == .checksumMismatch || k == .protocolViolation

/-- The sequencer stands where the table of R11 lets it stand, at a label of the operation in progress, and SEQ is IDLE exactly
when BUSY is 0. -/
abbrev StandsInv (s : State) : Prop :=
  (s.busy = false ↔ s.seq = .idle) ∧ subAllowed s.seq s.sub = true ∧ (s.seq ≠ .idle → runs s.op s.seq = true)

/-- The counters are inside the bounds of the loops they count (R14, R141). -/
abbrev CountInv (s : State) : Prop :=
  (sendsFrame s.seq = true → s.idx.toNat < (outFrame s).length) ∧
  (awaited s.seq ≠ [] → s.matched.toNat < (awaited s.seq).length ∧ s.skip ≤ s.params.waitSkipMax) ∧
  (hsLabel s.seq = true → s.pass < passesOf s.params)

/-- The delay timer runs exactly while a delay is outstanding, and never above its load value (R246). -/
abbrev TimerInv (s : State) : Prop :=
  (s.sub = .dly → 1 ≤ s.timer.toNat ∧ s.timer.toNat ≤ delayMs s.seq) ∧ (s.sub ≠ .dly → s.timer = 0)

/-- At a wait-point the request made last is the one outstanding: one request at a time, in order (R11, R50). -/
abbrev OutstandingInv (s : State) : Prop := s.sub ≠ .none → s.requests.getLast? = outstanding s

/-- Only the requests of R43 and R47 have been made. -/
abbrev RequestsInv (s : State) : Prop := s.requests.all (allowedRequest s.params) = true

/-- Every read runs under its own timeout pair, and the write timeout is the one set at reset (R21, R276). -/
abbrev TimeoutInv (s : State) : Prop :=
  (s.sub = .rd → (s.rtoMult, s.rtoConst) = readPair s.seq) ∧ s.wtoMult = s.params.wtoMultInit

/-- What is being sent is what the operation sends: a command frame of one of the three codes, a setup buffer with its generated
checksum, whose content fold stands in CK; and what POLL acknowledges is a frame whose fold is 0x7F (R63, R112, R186, R200, R236). -/
abbrev SendingInv (s : State) : Prop :=
  (s.seq = .hsRstTx → s.cmdb.toList = cmdFrame resetCode) ∧
  (s.seq = .feC36Tx → s.cmdb.toList = cmdFrame prefetchCode) ∧
  (s.seq = .feC23Tx → s.cmdb.toList = cmdFrame fetchCode) ∧
  (suLabel s.seq = true → s.ck = fold (s.txb.toList.take 31) ∧ s.txb[31] = ckGen s.ck) ∧
  (s.seq = .poAckTx → s.ck = 0x7F ∧ fold (s.rxb.toList.take 8) = 0x7F)

/-- RESULT is clear while an operation runs, and otherwise either clear, or `ok` with no error, or a kind the operation can
report (R23, R231, R236). -/
abbrev ResultInv (s : State) : Prop :=
  (s.busy = true → s.result = ⟨false, false, .none⟩) ∧
  (s.result = ⟨false, false, .none⟩ ∨ s.result = ⟨true, true, .none⟩ ∨
    (s.result.done = true ∧ s.result.ok = false ∧ canReport s.op s.result.err = true)) ∧
  (s.busy = true → s.op = .fetch ∨ s.op = .setup → canReport s.op s.lastErr = true)

/-- While an operation that writes an output file runs, the file's valid flag is clear (R25, R26, R139). -/
abbrev ValidInv (s : State) : Prop :=
  (s.busy = true → s.op = .fetch → s.cstValid = false) ∧ (s.busy = true → s.op = .poll → s.pollValid = false)

/-- The motion values are never -256 (R26), and an event's fields fit its tag (R27). -/
abbrev OutputInv (s : State) : Prop :=
  (s.mot.pitch ≠ 256 ∧ s.mot.roll ≠ 256 ∧ s.mot.yaw ≠ 256) ∧
  (s.evt.tag = .none → s.evt.ctrl = 0 ∧ s.evt.val = 0) ∧
  (s.evt.tag = .button → s.evt.val = 0) ∧
  (s.evt.tag = .toggle → s.evt.val.toNat ≤ 1) ∧
  (s.evt.tag = .slider ∨ s.evt.tag = .switch → s.evt.val.toNat ≤ 255) ∧
  (s.evt.tag = .knob → s.evt.val.toNat ≤ 32767)

/-- HS_STATE at the labels of the handshake (R151, R152). -/
abbrev HsInv (s : State) : Prop :=
  (s.seq = .hsProbe ∨ s.seq = .hsSync ∨ s.seq = .hsNudge → s.hsState = .awaitingSync) ∧
  (s.seq = .hsRstTx ∨ s.seq = .hsRstAck → s.hsState = .resettingSent) ∧
  (hsLabel s.seq = false → s.hsState = .idle ∨ s.hsState = .synchronized)

/-- The reads of one byte a wait can still make, the outstanding one included (R136, R142). -/
def waitLeft (s : State) : Nat :=
  (s.params.waitSkipMax.toNat - s.skip.toNat) * (awaited s.seq).length + ((awaited s.seq).length - s.matched.toNat)

/-- The writes a transmission can still make, the outstanding one included (R132, R142). -/
def frameLeft (s : State) : Nat := (outFrame s).length - s.idx.toNat

/-- K of R142. -/
def waitReads (p : Params) : Nat := p.waitSkipMax.toNat + 1

/-- The requests of one handshake pass at most (R142). -/
def passRequests (p : Params) : Nat := waitReads p + 3 * (3 + waitReads p) + waitReads p + 1

/-- The requests an operation can make at most, from its start (R142). -/
def requestBound (p : Params) : Op → Nat
  | .none => 0
  | .handshake => (passesOf p).toNat * passRequests p
  | .teardown => (passesOf p).toNat * passRequests p
  | .fetch => 2 * (3 + waitReads p) + 3 * (waitReads p + 4)
  | .setup => 3 * (3 * waitReads p + 1) + 3 * (34 + waitReads p)
  | .poll => waitReads p + 2

/-- The passes after the current one. -/
def passesLeft (s : State) : Nat := (passesOf s.params).toNat - (s.pass.toNat + 1)

/-- The attempts of the current loop after the current one. -/
def triesLeft (s : State) : Nat := 3 - s.tries.toNat

/-- The answers the running operation can still need at most: the bounds of R142 counted down along the pseudocode. -/
def budget (s : State) : Nat :=
  match s.seq with
  | .idle => 0
  | .hsProbe =>
    waitLeft s + 3 * (3 + waitReads s.params) + waitReads s.params + 1 + passesLeft s * passRequests s.params
  | .hsRstTx =>
    frameLeft s + waitReads s.params + triesLeft s * (3 + waitReads s.params) + waitReads s.params + 1 +
      passesLeft s * passRequests s.params
  | .hsRstAck =>
    waitLeft s + triesLeft s * (3 + waitReads s.params) + waitReads s.params + 1 +
      passesLeft s * passRequests s.params
  | .hsSync => waitLeft s + 1 + passesLeft s * passRequests s.params
  | .hsNudge => 1 + passesLeft s * passRequests s.params
  | .feC36Tx =>
    frameLeft s + waitReads s.params + (3 + waitReads s.params) + 3 * (waitReads s.params + 4)
  | .feC36Ack => waitLeft s + (3 + waitReads s.params) + 3 * (waitReads s.params + 4)
  | .feC23Tx => frameLeft s + waitReads s.params + 3 * (waitReads s.params + 4)
  | .feC23Ack => waitLeft s + 3 * (waitReads s.params + 4)
  | .feSync => waitLeft s + 4 + triesLeft s * (waitReads s.params + 4)
  | .feSeed => 4 + triesLeft s * (waitReads s.params + 4)
  | .fePayload => 3 + triesLeft s * (waitReads s.params + 4)
  | .feTrail => 2 + triesLeft s * (waitReads s.params + 4)
  | .feAckTx => 1 + triesLeft s * (waitReads s.params + 4)
  | .suCue => waitLeft s + 1 + triesLeft s * (3 * waitReads s.params + 1) + 3 * (34 + waitReads s.params)
  | .suCueAckTx => 1 + triesLeft s * (3 * waitReads s.params + 1) + 3 * (34 + waitReads s.params)
  | .suSettle => 3 * (34 + waitReads s.params)
  | .suWrTx => frameLeft s + waitReads s.params + triesLeft s * (34 + waitReads s.params)
  | .suWrAck => waitLeft s + triesLeft s * (34 + waitReads s.params)
  | .poSync => waitLeft s + 2
  | .poPayload => 2
  | .poAckTx => 1

/-- The reads and writes asked of the Transport so far (R142). -/
def requestsMade (s : State) : Nat :=
  s.requests.countP fun r =>
    match r with
    | .read _ => true
    | .write _ => true
    | .delay _ => false
    | .setReadTimeout _ _ => false
    | .setWriteTimeout _ => false

/-- A transfer of these bytes answers what is outstanding: it completes the bytes of the outstanding read, or it is what the engine
is about to write (R45, R46). -/
def carries (bs : List Byte) (s : State) : Bool :=
  match s.sub with
  | .rd => decide (readLen s.seq ≤ s.held.length + bs.length)
  | .wr =>
    aboutToSend bs s || (sendsAck s.seq && bs == [ackByte]) || (sendsFrame s.seq && s.idx == 0 && bs == [syncByte])
  | .none => false
  | .dly => false

/-- An input answers what is outstanding, or is a tick of the running delay (R11, R134). -/
def answers (e : Input) (s : State) : Bool :=
  match e with
  | .grant => s.sub == .wr || readReady s
  | .deny _ => s.sub == .rd || s.sub == .wr
  | .tick => s.sub == .dly
  | .frame bs => carries bs s
  | .start _ => false
  | .writeCs _ => false
  | .reset => false

/-- The operation is still in progress before each of the next `n` steps. -/
def busyFor (n : Nat) (s : State) : Prop :=
  ∀ k < n, ∀ v, Host.Core.run Sys2Proof.core k s = .next v → v.busy = true

/-- The sequencer has just begun the wait at a label: its first read is outstanding and the Transport holds nothing (R136). -/
abbrev FreshWait (l : Label) (s : State) : Prop := s.seq = l ∧ s.sub = .rd ∧ s.matched = 0 ∧ s.held = []

/-- The sequencer is about to write the first byte of the transmission at a label (R132). -/
abbrev FreshFrame (l : Label) (s : State) : Prop := s.seq = l ∧ s.sub = .wr ∧ s.idx = 0

/-- The requests of the rest of a transmission: before each further byte a gap (R132, R270). -/
def gapped (bs : List Byte) : List Request := bs.flatMap fun b => [.delay 42, .write b]

/-- The state in which a wait at `l` begins after `s` made the requests `reqs` (R136). -/
def waiting (l : Label) (reqs : List Request) (s : State) : State :=
  { s with
    seq := l
    sub := .rd
    rtoMult := 0
    rtoConst := waitBound l
    matched := 0
    skip := 0
    requests := s.requests ++ reqs ++ [.setReadTimeout 0 (waitBound l), .read 1] }

/-- The state in which a reset command begins: CMDB holds its frame and the first byte is written (R137, R150). -/
def resetCommand (s : State) : State :=
  { s with
    hsState := .resettingSent
    cmdb := #v[0xA5, 0x16, 0x4C]
    idx := 0
    seq := .hsRstTx
    sub := .wr
    requests := s.requests ++ [.write 0xA5] }

/-- The state in which an operation has returned with a result (R140). -/
def returned (r : ResultReg) (s : State) : State := { s with seq := .idle, sub := .none, busy := false, result := r }

/-- POLL has returned `ok` with an event and the motion of RXB (R140, R200). -/
def pollDelivers (e : EventRec) (s : State) : State :=
  returned ⟨true, true, .none⟩ { s with mot := decodeMotion s.rxb, evt := e, pollValid := true }

/-- An accepted start of an operation, before its first request (R139). -/
def accepted (o : Op) (s : State) : State :=
  { s with op := o, busy := true, result := ⟨false, false, .none⟩, lastErr := .timeout }

end Sys2Proof.Machine
end

