-- ==== Sys2Proof/Certificates/Slice0/Obligations.lean ====
section
/-! DEFINITION. The statements for the provers. Each docstring names the rules of spec/ it formalises; where the rule is marked
as the spec's own decision or inference, or the clause is a choice of this model, it says so and the statement's basis is
'derived'. -/

open Sys2Proof Sys2Proof.Machine

/-! ### Decoding and encoding (30_encoding.md) -/

/-- Decoding the bytes of any well-formed instruction at its port gives the instruction back, with every operand at every
value (R62 to R95). Which port a byte is read at is the model's choice (notes/assumptions/11.md). -/
def Obligations.DecodeOfEncode : Prop :=
  ∀ i : Instr, i.wf = true → decode i.port (encode i) = .ok i

/-- The other direction: whatever bytes decode at a port, the instruction stands at that port and its encoding is those bytes.
Which port a byte is read at is the model's choice (notes/assumptions/11.md). -/
def Obligations.EncodeOfDecode : Prop :=
  ∀ (p : Port) (bs : List Byte) (i : Instr), decode p bs = .ok i → i.port = p ∧ encode i = bs

/-- Words written out from the spec's encodings decode to the rows they stand for, one or more of each format (R60, R62, R63,
R70, R74, R75, R80, R85, R95, R99). Which port a byte is read at is the model's choice (notes/assumptions/11.md). -/
def Obligations.SpecWordsDecode : Prop :=
  decode .client [1] = .ok .handshake ∧ decode .client [7] = .ok (.opReserved67 1) ∧
  decode .channel [0xA5] = .ok .sync ∧ decode .channel [0x06] = .ok .ack ∧ decode .channel [0x58] = .ok .idleSync ∧
  decode .channel [0xA5, 0x16, 0x4C] = .ok .cmdReset ∧ decode .channel [0xA5, 0x36, 0x6C] = .ok .cmdPrefetch ∧
  decode .channel [0xA5, 0x23, 0x79] = .ok .cmdFetch ∧ decode .channel [0xA5, 0x23, 0x5C] = .ok .cue ∧
  decode .channel [0xA5, 0x19, 0x43] = .ok (.cmd 0x19 0x43) ∧
  decode .channel [0xA5, 0x03, 0x0A, 0x14, 0x05, 0x38, 0x4D, 0x00, 0x12] =
    .ok (.pollFrame 0x03 0x0A 0x14 0x05 0x38 0x4D 0x00 0x12) ∧
  decode .channel
      [0xA5, 0x23, 0x01, 0x00, 0x01, 0x01, 0x01, 0x00, 0x00, 0x01, 0x01, 0x00, 0x01, 0x00, 0x01, 0x02, 0x03, 0x01, 0x40, 0x7F, 0x20,
        0x31, 0x32, 0x40] =
    .ok (.cstFrame 0x23 #v[0x01, 0x00, 0x01, 0x01, 0x01, 0x00, 0x00, 0x01, 0x01, 0x00, 0x01, 0x00, 0x01, 0x02, 0x03, 0x01, 0x40,
      0x7F, 0x20, 0x31, 0x32] 0x40) ∧
  decode .channel
      [0xA5, 0x19, 0x00, 0x46, 0x6F, 0x46, 0x6F, 0x32, 0x6D, 0x32, 0x6D, 0x5A, 0x01, 0x00, 0x02, 0x00, 0x00, 0x14, 0x79, 0x34,
        0x01, 0x34, 0x01, 0x34, 0x01, 0x30, 0x17, 0x34, 0x01, 0x00, 0x00, 0x00, 0x00, 0x6C] =
    .ok (.setupWrite #v[0x00, 0x46, 0x6F, 0x46, 0x6F, 0x32, 0x6D, 0x32, 0x6D, 0x5A, 0x01, 0x00, 0x02, 0x00, 0x00, 0x14, 0x79,
      0x34, 0x01, 0x34, 0x01, 0x34, 0x01, 0x30, 0x17, 0x34, 0x01, 0x00, 0x00, 0x00, 0x00] 0x6C) ∧
  decode .rawId [0x3E] = .ok .idTrim ∧ decode .rawId [0x4C] = .ok (.idOther 0x4C) ∧
  decode .rawId [0x4F] = .ok (.idInvalid4E4F 1) ∧ decode .rawId [0xFF] = .ok (.idInvalid80FF 0x7F)

/-! ### A step runs the decoded instruction -/

/-- The step runs the decoded instruction at each port: a start request next runs the row of its operation code (R95, R139), a
transfer next whose bytes decode to a well-formed row runs that row, and the acceptance of POLL's acknowledge next runs the
row of the raw id in byte 4 of the frame (R200, R208). Nothing is done around the instruction but taking the input. The form
of the step is the model's (notes/assumptions/1.md). -/
def Obligations.StepRunsDecodedInstruction : Prop :=
  (∀ (s : State) (code : BitVec 3) (rest : List Input) (i : Instr), s.inbox = .start code :: rest →
    decode .client [code.setWidth 8] = .ok i → step s = exec i { s with inbox := rest }) ∧
  (∀ (s : State) (bs : List Byte) (rest : List Input) (i : Instr), s.inbox = .frame bs :: rest →
    decode .channel bs = .ok i → i.wf = true → step s = exec i { s with inbox := rest }) ∧
  (∀ (s : State) (rest : List Input) (i : Instr), s.inbox = .grant :: rest → s.seq = .poAckTx → s.sub = .wr →
    decode .rawId [s.rxb[4]] = .ok i → step s = exec i { s with inbox := rest })

/-- With nothing next the machine does nothing (R11, R262); bytes that are no row of the table, or an ill-formed row (a
command frame with a wrong complement, a setup write with a wrong checksum), arrive like any others (R92). What a step is, is
the model's choice (notes/assumptions/1.md), and that such bytes arrive is read from the rules by inference
(notes/assumptions/15.md). -/
def Obligations.StepWithoutInstruction : Prop :=
  (∀ s : State, s.inbox = [] → step s = .next s) ∧
  (∀ (s : State) (bs : List Byte) (rest : List Input), s.inbox = .frame bs :: rest →
    (∀ e, decode .channel bs = .error e → step s = .next (arrive bs { s with inbox := rest })) ∧
    (∀ i, decode .channel bs = .ok i → i.wf = false → step s = .next (arrive bs { s with inbox := rest })))

/-- The machine always has a next state: no fault, no refusal, whatever the environment does (R49 "Whether the PE has a step
never depends on the oracle", R248). -/
def Obligations.EveryStepAnswersNext : Prop := ∀ s : State, ∃ t, step s = .next t

/-! ### Starting an operation (41_primitives.md R139) -/

/-- HANDSHAKE and TEARDOWN from idle: the accepting writes, PASS 0, AwaitingSync, and the probe wait of 50 ms (R139, R150,
R156); nothing else changes. The start writes and the pass count are the spec's decisions D3 and D10, TEARDOWN as a HANDSHAKE
its D32. -/
def Obligations.HandshakeAndTeardownStart : Prop :=
  ∀ s : State, s.busy = false →
    exec .handshake s =
      .next (waiting .hsProbe [] { accepted .handshake s with pass := 0, hsState := .awaitingSync }) ∧
    exec .teardown s =
      .next (waiting .hsProbe [] { accepted .teardown s with pass := 0, hsState := .awaitingSync })

/-- FETCH, SETUP and POLL from idle (R139); nothing else changes, in particular not the bytes the Transport holds. FETCH:
CST_VALID cleared, CMDB the frame A5 36 6C, its first byte written (R137, R170). SETUP: TXB is the CS file encoded, CK the
fold of its content, TRY 1, and the cue wait of 440 ms (R112, R186). POLL: POLL_VALID cleared and the SYNC wait of 100 ms
(R200). The start writes are the spec's decisions D3, D13, D17 and D18, the layout its D14. -/
def Obligations.FetchSetupAndPollStart : Prop :=
  ∀ s : State, s.busy = false →
    exec .fetch s =
      .next { accepted .fetch s with
        cstValid := false
        cmdb := #v[0xA5, 0x36, 0x6C]
        idx := 0
        seq := .feC36Tx
        sub := .wr
        requests := s.requests ++ [.write 0xA5] } ∧
    exec .setup s =
      .next (waiting .suCue []
        { accepted .setup s with
          txb := encodeSetup (layoutOf s.params) s.cs
          ck := fold (setupContent (layoutOf s.params) s.cs)
          tries := 1 }) ∧
    exec .poll s = .next (waiting .poSync [] { accepted .poll s with pollValid := false })

/-- A start request while BUSY = 1 changes nothing, and neither does one with a reserved code at any time (R13, R95, R139).
Ignoring is the spec's decision D3. -/
def Obligations.IgnoredStarts : Prop :=
  (∀ s : State, s.busy = true →
    exec .handshake s = .next s ∧ exec .fetch s = .next s ∧ exec .setup s = .next s ∧ exec .poll s = .next s ∧
      exec .teardown s = .next s) ∧
  (∀ s : State, exec .opReserved0 s = .next s ∧ ∀ low, exec (.opReserved67 low) s = .next s)

/-! ### The single-byte codes on the channel (R60) -/

/-- SYNC coming in at a fresh wait for it: FETCH sets the pair (42, 440) and reads the seed, POLL reads its 8 bytes under the
inherited pair (R60, R136, R170, R200, R276); nothing else changes. The timeout pairs and the read sizes are the spec's
decisions D6, D13 and D18; that arriving bytes answer the read in the same step is the model's choice
(notes/assumptions/13.md). -/
def Obligations.SyncReceived : Prop :=
  ∀ s : State,
    (FreshWait .feSync s →
      exec .sync s =
        .next { s with
          matched := 1
          rtoMult := 42
          rtoConst := 440
          seq := .feSeed
          requests := s.requests ++ [.setReadTimeout 42 440, .read 1] }) ∧
    (FreshWait .poSync s →
      exec .sync s = .next { s with matched := 1, seq := .poPayload, requests := s.requests ++ [.read 8] })

/-- SYNC going out as the first byte of a command frame or of the setup write: the 42 ms gap follows (R60, R132). The place of
the gaps is the spec's decision D8; a wire row as a transfer is the model's (notes/assumptions/13.md). -/
def Obligations.SyncSent : Prop :=
  ∀ (s : State) (l : Label), l = .suWrTx ∨ (s.cmdb[0] = 0xA5 ∧ (l = .hsRstTx ∨ l = .feC36Tx ∨ l = .feC23Tx)) →
    FreshFrame l s →
    exec .sync s =
      .next { s with idx := 1, sub := .dly, timer := 42, requests := s.requests ++ [.delay 42] }

/-- ACK coming in at a fresh wait for it: the next line of HANDSHAKE, of FETCH (the second command, then the frame loop) and
of SETUP (`return ok`) (R136, R150, R170, R186); nothing else changes. The continuations rest on the spec's decisions D9, D11,
D13 and D17; a wire row as a transfer is the model's (notes/assumptions/13.md). -/
def Obligations.AckReceived : Prop :=
  ∀ s : State,
    (FreshWait .hsRstAck s →
      exec .ack s = .next (waiting .hsSync [] { s with hsState := .awaitingSync })) ∧
    (FreshWait .feC36Ack s →
      exec .ack s =
        .next { s with
          matched := 1
          cmdb := #v[0xA5, 0x23, 0x79]
          idx := 0
          seq := .feC23Tx
          sub := .wr
          requests := s.requests ++ [.write 0xA5] }) ∧
    (FreshWait .feC23Ack s → exec .ack s = .next (waiting .feSync [] { s with tries := 1 })) ∧
    (FreshWait .suWrAck s → exec .ack s = .next (returned ⟨true, true, .none⟩ { s with matched := 1 }))

/-- ACK going out: FETCH delivers CST and returns `ok`; SETUP starts its settle delay; POLL returns with the classified event
or a protocol violation (R131, R170, R186, R200); nothing else changes. What is written at the return rests on the spec's
decisions D13, D17 and D18; a wire row as a transfer is the model's (notes/assumptions/13.md). -/
def Obligations.AckSent : Prop :=
  ∀ s : State, s.sub = .wr →
    (s.seq = .feAckTx →
      exec .ack s =
        .next (returned ⟨true, true, .none⟩ { s with cst := decodeCst s.rxb, cstValid := true })) ∧
    (s.seq = .suCueAckTx →
      exec .ack s =
        .next { s with seq := .suSettle, sub := .dly, timer := 28, requests := s.requests ++ [.delay 28] }) ∧
    (s.seq = .poAckTx →
      exec .ack s =
        .next
          (match decodeEvent s.params s.rxb[4] s.rxb[5] s.rxb[6] with
          | some e => pollDelivers e s
          | none => returned ⟨true, false, .protocolViolation⟩ s))

/-- The nudge going out, or failing to (its result is ignored): the next pass while PASS + 1 < HS_PASSES, else the handshake
has failed, with `err(Timeout)` for HANDSHAKE and `ok` for TEARDOWN (R150, R152, R156). These are the spec's decisions D10,
D11, D12 and D32. These are the spec's decisions D10, D11, D12 and D32; the row ACK as the accepted write of the nudge is the
model's choice (notes/assumptions/13.md). -/
def Obligations.NudgeEndsThePass : Prop :=
  ∀ (s : State) (lost : Nat) (rest : List Input), s.seq = .hsNudge → s.sub = .wr →
    exec .ack s =
      .next
        (if s.pass + 1 < passesOf s.params then
          waiting .hsProbe [] { s with pass := s.pass + 1, hsState := .awaitingSync }
        else
          returned (if s.op = .teardown then ⟨true, true, .none⟩ else ⟨true, false, .timeout⟩)
            { s with pass := s.pass + 1, hsState := .idle }) ∧
    (s.inbox = .deny lost :: rest → step s = exec .ack { s with inbox := rest })

/-- IDLE_SYNC coming in at a fresh wait for it, in step 1 or step 3: Synchronized, and the operation returns `ok` (R60, R150,
R151); nothing else changes. HS_STATE is the spec's decision D12; a wire row as a transfer is the model's
(notes/assumptions/13.md). -/
def Obligations.IdleSyncReceived : Prop :=
  ∀ (s : State) (l : Label), l = .hsProbe ∨ l = .hsSync → FreshWait l s →
    exec .idleSync s =
      .next (returned ⟨true, true, .none⟩ { s with matched := 1, hsState := .synchronized })

/-! ### Frames on the channel -/

/-- A command frame going out, any command: the two further bytes each after a 42 ms gap, then the 500 ms wait for the
acknowledge (R62, R132, R137, R138). The three frames the engine sends are rows of their own, each at its own label (R63,
R150, R170). Nothing else changes. The gaps and the wait are the spec's decisions D6 and D8; that a frame is one step is the
model's choice (notes/assumptions/13.md). -/
def Obligations.CommandFrameSent : Prop :=
  (∀ (s : State) (c k : Byte) (l l' : Label),
    (l, l') ∈ [(Label.hsRstTx, Label.hsRstAck), (.feC36Tx, .feC36Ack), (.feC23Tx, .feC23Ack)] →
    FreshFrame l s → s.cmdb = #v[0xA5, c, k] →
    exec (.cmd c k) s = .next (waiting l' (gapped [c, k]) { s with idx := 3, timer := 0 })) ∧
  (∀ s : State, FreshFrame .hsRstTx s → s.cmdb = #v[0xA5, 0x16, 0x4C] →
    exec .cmdReset s = .next (waiting .hsRstAck (gapped [0x16, 0x4C]) { s with idx := 3, timer := 0 })) ∧
  (∀ s : State, FreshFrame .feC36Tx s → s.cmdb = #v[0xA5, 0x36, 0x6C] →
    exec .cmdPrefetch s = .next (waiting .feC36Ack (gapped [0x36, 0x6C]) { s with idx := 3, timer := 0 })) ∧
  (∀ s : State, FreshFrame .feC23Tx s → s.cmdb = #v[0xA5, 0x23, 0x79] →
    exec .cmdFetch s = .next (waiting .feC23Ack (gapped [0x23, 0x79]) { s with idx := 3, timer := 0 }))

/-- A command frame on the channel is the same as its elementary events: the first byte accepted, 42 ticks, the second
accepted, 42 ticks, the third accepted (R132, R270). That a frame is one step is the model's choice (notes/assumptions/13.md).
The gaps are the spec's decision D8. -/
def Obligations.CommandFrameIsWritesAndGaps : Prop :=
  ∀ (s : State) (c k : Byte) (l : Label), l = .hsRstTx ∨ l = .feC36Tx ∨ l = .feC23Tx →
    FreshFrame l s → s.cmdb = #v[0xA5, c, k] →
    Host.Core.run Sys2Proof.core 87
      { s with
        inbox :=
          [.grant] ++ List.replicate 42 .tick ++ [.grant] ++ List.replicate 42 .tick ++ [.grant] ++ s.inbox } =
      exec (.cmd c k) s

/-- The setup cue coming in at a fresh cue wait: three reads, then the acknowledge is written (R74, R136, R186). The wait is
the spec's decision D5, the stage its D17; a frame in one step is the model's choice (notes/assumptions/13.md). -/
def Obligations.CueReceived : Prop :=
  ∀ s : State, FreshWait .suCue s →
    exec .cue s =
      .next { s with
        matched := 3
        seq := .suCueAckTx
        sub := .wr
        requests := s.requests ++ [.read 1, .read 1, .write 0x06] }

/-- The controls-state frame coming in at a fresh SYNC wait: CK from the seed, RXB the record, and the trailing byte tested on
all 8 bits; a valid frame is acknowledged, an invalid one is not, and is retried or reported (R70, R103, R170, R171, R232).
The reads and the retry scope are the spec's decision D13, the seed its D37, the reported kind its D22; a frame in one step is
the model's choice (notes/assumptions/13.md). -/
def Obligations.ControlsFrameReceived : Prop :=
  ∀ (s : State) (seed trailing : Byte) (record : Vector Byte 21), FreshWait .feSync s →
    exec (.cstFrame seed record trailing) s =
      .next
        (if seed ^^^ fold record.toList ^^^ trailing = 0x7F then
          { s with
            matched := 1
            rtoMult := 42
            rtoConst := 440
            ck := seed ^^^ fold record.toList
            rxb := record
            seq := .feAckTx
            sub := .wr
            requests := s.requests ++ [.setReadTimeout 42 440, .read 1, .read 21, .read 1, .write 0x06] }
        else if s.tries.toNat < 3 then
          waiting .feSync [.setReadTimeout 42 440, .read 1, .read 21, .read 1]
            { s with
              ck := seed ^^^ fold record.toList
              rxb := record
              lastErr := .checksumMismatch
              tries := s.tries + 1 }
        else
          returned ⟨true, false, .checksumMismatch⟩
            { s with
              matched := 1
              rtoMult := 42
              rtoConst := 440
              ck := seed ^^^ fold record.toList
              rxb := record
              lastErr := .checksumMismatch
              requests := s.requests ++ [.setReadTimeout 42 440, .read 1, .read 21, .read 1] })

/-- The setup write going out: the 33 bytes after SYNC each after a 42 ms gap, then the 440 ms wait for the acknowledge (R75,
R132, R186); TXB and everything else unchanged. The gaps of this frame are the spec's decision D8; a frame in one step is the
model's choice (notes/assumptions/13.md). -/
def Obligations.SetupWriteSent : Prop :=
  ∀ (s : State) (content : Vector Byte 31) (ck : Byte), FreshFrame .suWrTx s →
    s.txb.toList = content.toList ++ [ck] →
    exec (.setupWrite content ck) s =
      .next (waiting .suWrAck (gapped (0x19 :: (content.toList ++ [ck]))) { s with idx := 34, timer := 0 })

/-- The poll frame coming in at a fresh SYNC wait: RXB[0..7] and CK written, RXB[8..20] unchanged; a fold of 0x7F is
acknowledged, any other returns `err(ChecksumMismatch)` with nothing written to the console (R16, R80, R103, R200). One read
and the order of the tests are the spec's decision D18; a frame in one step is the model's choice
(notes/assumptions/13.md). -/
def Obligations.PollFrameReceived : Prop :=
  ∀ (s : State) (p0 p1 p2 p3 p4 p5 p6 p7 : Byte), FreshWait .poSync s →
    exec (.pollFrame p0 p1 p2 p3 p4 p5 p6 p7) s =
      .next
        (if fold [p0, p1, p2, p3, p4, p5, p6, p7] = 0x7F then
          { s with
            matched := 1
            rxb := vecOf 21 ([p0, p1, p2, p3, p4, p5, p6, p7] ++ s.rxb.toList.drop 8)
            ck := 0x7F
            seq := .poAckTx
            sub := .wr
            requests := s.requests ++ [.read 8, .write 0x06] }
        else
          returned ⟨true, false, .checksumMismatch⟩
            { s with
              matched := 1
              rxb := vecOf 21 ([p0, p1, p2, p3, p4, p5, p6, p7] ++ s.rxb.toList.drop 8)
              ck := fold [p0, p1, p2, p3, p4, p5, p6, p7]
              requests := s.requests ++ [.read 8] })

/-- Bytes that come in while no read is outstanding, in a delay, at idle or at a write they are not what is written, are held
by the Transport behind what it holds, and change nothing of the engine: it flushes nothing (R55, R134, R277). So for every
row of the channel and for bytes that are no well-formed row. That nothing is flushed is the spec's decision D5, the order of
the bytes its D35; the list of held bytes is the model's (notes/assumptions/3.md), and so is a wire row as a transfer
(notes/assumptions/13.md, 15.md). -/
def Obligations.BytesAreHeldWhileNotReading : Prop :=
  ∀ (s : State), s.sub ≠ .rd →
    exec .idleSync s = .next { s with held := s.held ++ [0x58] } ∧
    exec .cue s = .next { s with held := s.held ++ [0xA5, 0x23, 0x5C] } ∧
    (∀ seed record trailing,
      exec (.cstFrame seed record trailing) s =
        .next { s with held := s.held ++ 0xA5 :: seed :: (record.toList ++ [trailing]) }) ∧
    (∀ p0 p1 p2 p3 p4 p5 p6 p7,
      exec (.pollFrame p0 p1 p2 p3 p4 p5 p6 p7) s =
        .next { s with held := s.held ++ [0xA5, p0, p1, p2, p3, p4, p5, p6, p7] }) ∧
    (¬(s.sub = .wr ∧ s.idx = 0 ∧ sendsFrame s.seq = true ∧ outByte s = 0xA5) →
      exec .sync s = .next { s with held := s.held ++ [0xA5] }) ∧
    (¬(s.sub = .wr ∧ sendsAck s.seq = true) → exec .ack s = .next { s with held := s.held ++ [0x06] }) ∧
    (∀ c k, ¬(s.sub = .wr ∧ s.idx = 0 ∧ sendsFrame s.seq = true ∧ outFrame s = [0xA5, c, k]) →
      exec (.cmd c k) s = .next { s with held := s.held ++ [0xA5, c, k] } ∧
      ((c, k) = (0x16, 0x4C) → exec .cmdReset s = .next { s with held := s.held ++ [0xA5, 0x16, 0x4C] }) ∧
      ((c, k) = (0x36, 0x6C) → exec .cmdPrefetch s = .next { s with held := s.held ++ [0xA5, 0x36, 0x6C] }) ∧
      ((c, k) = (0x23, 0x79) → exec .cmdFetch s = .next { s with held := s.held ++ [0xA5, 0x23, 0x79] })) ∧
    (∀ content ck,
      ¬(s.sub = .wr ∧ s.idx = 0 ∧ sendsFrame s.seq = true ∧
        outFrame s = 0xA5 :: 0x19 :: (content.toList ++ [ck])) →
      exec (.setupWrite content ck) s =
        .next { s with held := s.held ++ 0xA5 :: 0x19 :: (content.toList ++ [ck]) }) ∧
    (∀ (bs : List Byte) (rest : List Input), s.inbox = .frame bs :: rest →
      (∀ i, decode .channel bs = .ok i → i.wf = false) →
      step s = .next { s with held := s.held ++ bs, inbox := rest })

/-! ### The event decoder (45_poll.md) -/

/-- The eleven rows of fixed raw ids run as the last part of POLL, and nothing else changes. ID_NONE, ID_COURSE_SELECTOR,
ID_NAV1_ON, ID_THROTTLE and ID_TRIM: POLL delivers the event of the arm, with the motion of the frame, and returns `ok` (R116,
R206, R210, R212, R215, R217; POLL's last lines are the spec's decision D18). For ID_TRIM direction 1 is the TRIM_DOWN button,
2 the TRIM_UP button, any other a protocol violation that writes no output file (R122, R211; the last case is the spec's
decision D23). The six rows of ids that are invalid for every ID_CLASS, each with every value of its free bits:
`err(ProtocolViolation)` (R92, R218). That a raw-id row runs as the last part of POLL is the model's choice
(notes/assumptions/14.md). -/
def Obligations.FixedIdRowsFinishPoll : Prop :=
  ∀ s : State,
    exec .idNone s = .next (pollDelivers ⟨.none, 0, 0⟩ s) ∧
    exec .idCourseSelector s =
      .next (pollDelivers ⟨.knob, 0x02, (s.rxb[6].setWidth 16 <<< 7) ||| s.rxb[5].setWidth 16⟩ s) ∧
    exec .idNav1On s = .next (pollDelivers ⟨.toggle, 0x18, if s.rxb[5] = 0 then 0 else 1⟩ s) ∧
    exec .idThrottle s = .next (pollDelivers ⟨.slider, 0x38, s.rxb[5].setWidth 16⟩ s) ∧
    exec .idTrim s =
      .next
        (if s.rxb[5] = 1 then pollDelivers ⟨.button, 0x80, 0⟩ s
        else if s.rxb[5] = 2 then pollDelivers ⟨.button, 0x81, 0⟩ s
        else returned ⟨true, false, .protocolViolation⟩ s) ∧
    exec .idInvalid01 s = .next (returned ⟨true, false, .protocolViolation⟩ s) ∧
    exec .idInvalid4D s = .next (returned ⟨true, false, .protocolViolation⟩ s) ∧
    (∀ low, exec (.idInvalid4E4F low) s = .next (returned ⟨true, false, .protocolViolation⟩ s)) ∧
    (∀ low, exec (.idInvalid505F low) s = .next (returned ⟨true, false, .protocolViolation⟩ s)) ∧
    (∀ low, exec (.idInvalid607F low) s = .next (returned ⟨true, false, .protocolViolation⟩ s)) ∧
    (∀ low, exec (.idInvalid80FF low) s = .next (returned ⟨true, false, .protocolViolation⟩ s))

/-- The arm Invalid (R218): the classifier gives no event, so once the acknowledge is accepted POLL returns
`err(ProtocolViolation)`, and MOT, EVT, POLL_VALID and everything else stay as they were. The ids 0x01 and 0x4D (R218) and, by
the constraint of R85 (the spec's decision D20), every other id above 0x4C are of this class for every ID_CLASS. The
acknowledge as the transfer of the row ACK is the model's choice (notes/assumptions/13.md). -/
def Obligations.InvalidIdsAreViolations : Prop :=
  (∀ (p : Params) (id v1 v2 : Byte), idClass p id = .invalid → decodeEvent p id v1 v2 = none) ∧
  (∀ s : State, idClass s.params s.rxb[4] = .invalid → s.seq = .poAckTx → s.sub = .wr →
    exec .ack s = .next (returned ⟨true, false, .protocolViolation⟩ s)) ∧
  (∀ (p : Params) (id : Byte), id = 0x01 ∨ 0x4C < id.toNat → idClass p id = .invalid)

/-- The arms of the classifier, for every ID_CLASS, every id of the class and every pair of value bytes: None (id 0x00), Knob,
KnobXpdr, Button, Toggle, Switch and Slider, with the value functions they use (R120, R121, R210, R212 to R217).
CTRL_RADIO_TUNE is a parameter in its range, an id of class Knob (R5). The arm Trim, which rests on the spec's decision D23,
is in OtherIdsFollowTheirClass and FixedIdRowsFinishPoll. -/
def Obligations.EventArmsByClass : Prop :=
  ∀ (p : Params) (id v1 v2 : Byte),
    decodeEvent p 0x00 v1 v2 = some ⟨.none, 0, 0⟩ ∧
    (idClass p id = .knob → decodeEvent p id v1 v2 = some ⟨.knob, id, (v2.setWidth 16 <<< 7) ||| v1.setWidth 16⟩) ∧
    (idClass p id = .knobXpdr → idClass p p.ctrlRadioTune = .knob →
      decodeEvent p id v1 v2 = some ⟨.knob, p.ctrlRadioTune, ((v1 &&& 0x03).setWidth 16 <<< 8) ||| v2.setWidth 16⟩) ∧
    (idClass p id = .button → decodeEvent p id v1 v2 = some ⟨.button, id, 0⟩) ∧
    (idClass p id = .toggle → decodeEvent p id v1 v2 = some ⟨.toggle, id, if v1 ≠ 0 then 1 else 0⟩) ∧
    (idClass p id = .switch → decodeEvent p id v1 v2 = some ⟨.switch, id, v1.setWidth 16⟩) ∧
    (idClass p id = .slider → decodeEvent p id v1 v2 = some ⟨.slider, id, v1.setWidth 16⟩) ∧
    knobValue v1 v2 = (v2.setWidth 16 <<< 7) ||| v1.setWidth 16 ∧ knobValue v1 v2 = join7 v1 v2 ∧
    xpdrValue v1 v2 = ((v1 &&& 0x03).setWidth 16 <<< 8) ||| v2.setWidth 16 ∧
    (v1.getLsbD 7 = false → v2.getLsbD 7 = false → knobValue v1 v2 ≤ 16383) ∧ knobValue v1 v2 ≤ 32767 ∧
    xpdrValue v1 v2 ≤ 1023 ∧ toggleValue v1 = if v1 ≠ 0 then 1 else 0

/-- The row ID_OTHER, class by class, for every ID_CLASS (R85, R90, R208, R211 to R218; ID_CLASS and CTRL_RADIO_TUNE are the
spec's OPEN parameters, D20 and D21). That a raw-id row runs as the last part of POLL is the model's choice
(notes/assumptions/14.md), and so is the reading of a CTRL_RADIO_TUNE that is no knob id (notes/assumptions/10.md) and of an
id ID_CLASS does not list (notes/assumptions/9.md). -/
def Obligations.OtherIdsFollowTheirClass : Prop :=
  ∀ (s : State) (id : Byte), (Instr.idOther id).wf = true →
    exec (.idOther id) s =
      .next
        (match s.params.idOther.lookup id with
        | some .none => pollDelivers ⟨.none, 0, 0⟩ s
        | some .knob => pollDelivers ⟨.knob, id, (s.rxb[6].setWidth 16 <<< 7) ||| s.rxb[5].setWidth 16⟩ s
        | some .knobXpdr =>
          pollDelivers
            ⟨.knob, radioTuneOf s.params, ((s.rxb[5] &&& 3).setWidth 16 <<< 8) ||| s.rxb[6].setWidth 16⟩ s
        | some .button => pollDelivers ⟨.button, id, 0⟩ s
        | some .toggle => pollDelivers ⟨.toggle, id, if s.rxb[5] = 0 then 0 else 1⟩ s
        | some .switch => pollDelivers ⟨.switch, id, s.rxb[5].setWidth 16⟩ s
        | some .slider => pollDelivers ⟨.slider, id, s.rxb[5].setWidth 16⟩ s
        | some .trim =>
          if s.rxb[5] = 1 then pollDelivers ⟨.button, 0x82, 0⟩ s
          else if s.rxb[5] = 2 then pollDelivers ⟨.button, 0x83, 0⟩ s
          else returned ⟨true, false, .protocolViolation⟩ s
        | some .invalid => returned ⟨true, false, .protocolViolation⟩ s
        | none => returned ⟨true, false, .protocolViolation⟩ s)

/-! ### The codec (40_codec.md) -/

/-- The laws of `fold` (R100): the empty fold; the fold of a concatenation, of one byte more at the end and from a seed;
independence of the order; each bit of the fold is the parity of that bit over all bytes. -/
def Obligations.FoldLaws : Prop :=
  fold [] = 0 ∧ (∀ a b : List Byte, fold (a ++ b) = fold a ^^^ fold b) ∧
  (∀ (s : List Byte) (x : Byte), fold (s ++ [x]) = fold s ^^^ x) ∧
  (∀ (s : List Byte) (seed : Byte), fold ([seed] ++ s) = seed ^^^ fold s) ∧ (∀ a b : List Byte, a.Perm b → fold a = fold b) ∧
  (∀ (s : List Byte) (j : Nat), (fold s).getLsbD j = decide ((s.countP fun b => b.getLsbD j) % 2 = 1))

/-- The command frame builder, whose complement does not depend on bit 7 of the command (R101); checksum generation, with bit
7 always clear (R102); checksum validation on all 8 bits, with exactly one valid trailing byte, the same as a whole fold of
0x7F (R103); the join of two bytes, which never exceeds 0x7FFF, undoes the 7-bit split for every value up to 32767, and takes
a set bit 7 of its low byte for bit 0 of the high one (R111). -/
def Obligations.CodecFunctionsFollowTheirRules : Prop :=
  (∀ c : Byte, cmdFrame c = [0xA5, c, ~~~(c ^^^ 0xA5) &&& 0x7F] ∧ (cmdFrame (c ^^^ 0x80))[2]? = (cmdFrame c)[2]?) ∧
  (∀ ck : Byte, ckGen ck = ~~~ck &&& 0x7F ∧ ckGen ck = (ck ^^^ 0x7F) &&& 0x7F ∧ (ckGen ck).getLsbD 7 = false) ∧
  (∀ ck t : Byte, (ckCheck ck t = true ↔ ck ^^^ t = 0x7F) ∧ (ckCheck ck t = true ↔ t = ck ^^^ 0x7F)) ∧
  (∀ (l : List Byte) (t : Byte), ckCheck (fold l) t = true ↔ fold (l ++ [t]) = 0x7F) ∧
  (∀ lo hi : Byte, join7 lo hi = (hi.setWidth 16 <<< 7) ||| lo.setWidth 16 ∧ join7 lo hi ≤ 0x7FFF) ∧
  (∀ v : Half, v.toNat ≤ 32767 → join7 (split7Lo v) (split7Hi v) = v) ∧ join7 0x80 0x00 = join7 0x00 0x01

/-- What the checksum does. A change to a single byte of a checked sequence is detected (R105). Generation and validation
agree exactly when the fold has bit 7 clear (R104). The setup buffer under every layout (R112, R187, R76): the content fold
does not depend on the layout, the checksum byte is generated from it, and the fold of all 32 bytes is 0x7F when the content
fold has bit 7 clear and 0xFF when it has bit 7 set. R104, R105 and R187 are marked by the spec as derived, the layout is its
decision D14. -/
def Obligations.ChecksumDetectsAndAgrees : Prop :=
  (∀ (l : List Byte) (i : Nat) (b : Byte), i < l.length → fold l = 0x7F → l[i]? ≠ some b → fold (l.set i b) ≠ 0x7F) ∧
  (∀ ck : Byte, ckCheck ck (ckGen ck) = true ↔ ck.getLsbD 7 = false) ∧
  ∀ (p : Params) (cs : ConsoleState),
    fold (setupContent (layoutOf p) cs) = fold (setupContent defaultLayout cs) ∧
    (encodeSetup (layoutOf p) cs)[31] = ckGen (fold (setupContent defaultLayout cs)) ∧
    fold (encodeSetup (layoutOf p) cs).toList =
      if (fold (setupContent defaultLayout cs)).getLsbD 7 = true then 0xFF else 0x7F

/-- With the layout of R76 every pair, and every setting below 32768, is read back from the setup buffer with the inverse of
the split; the selector and the opaque bytes stand unchanged (R77, R78, R111, R187; the offsets are the spec's decision
D14). -/
def Obligations.SetupBufferRoundTrip : Prop :=
  ∀ cs : ConsoleState,
    let b := encodeSetup defaultLayout cs
    b[0] = cs.radioSel ∧
    (b[1], b[2], b[3], b[4]) = (cs.nav1Stby.frac, cs.nav1Stby.int, cs.nav1Cur.frac, cs.nav1Cur.int) ∧
    (b[5], b[6], b[7], b[8]) = (cs.nav2Stby.frac, cs.nav2Stby.int, cs.nav2Cur.frac, cs.nav2Cur.int) ∧
    (b[9], b[10], b[11], b[12]) = (cs.adfStby.frac, cs.adfStby.int, cs.adfCur.frac, cs.adfCur.int) ∧
    (b[13], b[14], b[15], b[16]) = (cs.unk.frac, cs.unk.int, cs.com.frac, cs.com.int) ∧
    (b[27], b[28], b[29], b[30]) = (cs.opaqueBytes[0], cs.opaqueBytes[1], cs.opaqueBytes[2], cs.opaqueBytes[3]) ∧
    (cs.nav1Crs.toNat < 32768 → join7 b[17] b[18] = cs.nav1Crs) ∧
    (cs.nav2Obs.toNat < 32768 → join7 b[19] b[20] = cs.nav2Obs) ∧
    (cs.adfBrg.toNat < 32768 → join7 b[21] b[22] = cs.adfBrg) ∧
    (cs.baro.toNat < 32768 → join7 b[23] b[24] = cs.baro) ∧ (cs.apHdg.toNat < 32768 → join7 b[25] b[26] = cs.apHdg)

/-- The motion decode is exact: each axis is its magnitude, negated when its sign flag is set, and bits 7:3 of the flags byte
do not matter (R115, R116, R206). -/
def Obligations.MotionDecodeIsExact : Prop :=
  ∀ rxb : Vector Byte 21,
    (decodeMotion rxb).pitch.toInt = (if rxb[0].getLsbD 0 then -(rxb[1].toNat : Int) else rxb[1].toNat) ∧
    (decodeMotion rxb).roll.toInt = (if rxb[0].getLsbD 1 then -(rxb[2].toNat : Int) else rxb[2].toNat) ∧
    (decodeMotion rxb).yaw.toInt = (if rxb[0].getLsbD 2 then -(rxb[3].toNat : Int) else rxb[3].toNat)

/-! ### The primitives (41_primitives.md) -/

/-- A wait for one byte examines the bytes the Transport holds and then those that arrive, one read each: it skips up to
WAIT_SKIP_MAX other bytes and takes the byte; the first other byte beyond WAIT_SKIP_MAX is consumed and ends the wait with
Timeout; while neither has happened the wait goes on with everything consumed. What is left goes to the reads that follow
(R55, R136, R277; the skip rule is the spec's decision D5). That the Transport hands its bytes on in order, and that bytes
arriving together answer one read after another in the same step, is the model's choice (notes/assumptions/3.md, 13.md). -/
def Obligations.WaitSkipsThenTakesOrGivesUp : Prop :=
  ∀ (s : State) (b : Byte) (bs junk rest : List Byte), s.sub = .rd → s.matched = 0 → awaited s.seq = [b] →
    (∀ x ∈ junk, x ≠ b) → s.skip ≤ s.params.waitSkipMax →
    (s.held ++ bs = junk ++ b :: rest → s.skip.toNat + junk.length ≤ s.params.waitSkipMax.toNat →
      arrive bs s =
        arrive rest
          (afterWait .ok
            { s with
              matched := 1
              skip := s.skip + BitVec.ofNat 16 junk.length
              held := []
              requests := s.requests ++ List.replicate junk.length (.read 1) })) ∧
    (s.held ++ bs = junk ++ rest → s.skip.toNat + junk.length = s.params.waitSkipMax.toNat + 1 →
      arrive bs s =
        arrive rest
          (afterWait (.err .timeout)
            { s with
              skip := s.params.waitSkipMax
              held := []
              requests := s.requests ++ List.replicate (junk.length - 1) (.read 1) })) ∧
    (s.held ++ bs = junk → s.skip.toNat + junk.length ≤ s.params.waitSkipMax.toNat →
      arrive bs s =
        { s with
          skip := s.skip + BitVec.ofNat 16 junk.length
          held := []
          requests := s.requests ++ List.replicate junk.length (.read 1) })

/-- The cue wait at a byte that does not fit, the first of those held and arriving: within the budget it restarts, the byte
itself counting as a first byte if it is SYNC; beyond the budget the attempt fails with ProtocolViolation if the cue had begun
to match, else with Timeout, and either is retried while TRY < 3 and is what SETUP returns after the third attempt (R136, R186
(f); the spec's decisions D5, D7 and D17). What is left goes to the reads that follow. That bytes arriving together answer one
read after another in the same step is the model's choice (notes/assumptions/3.md, 13.md). -/
def Obligations.CueWaitMismatch : Prop :=
  ∀ (s : State) (b : Byte) (bs rest : List Byte) (k : ErrKind), s.seq = .suCue → s.sub = .rd → s.matched.toNat < 3 →
    cueBytes[s.matched.toNat]? ≠ some b → s.held ++ bs = b :: rest →
    k = (if 1 ≤ s.matched.toNat then .protocolViolation else .timeout) →
    arrive bs s =
      arrive rest
        (if s.skip = s.params.waitSkipMax then
          if s.tries.toNat < 3 then waiting .suCue [] { s with lastErr := k, tries := s.tries + 1, held := [] }
          else returned ⟨true, false, k⟩ { s with lastErr := k, held := [] }
        else
          { s with
            skip := s.skip + 1
            matched := if b = 0xA5 then 1 else 0
            held := []
            requests := s.requests ++ [.read 1] })

/-- Bytes the Transport holds are the first thing a read gets (R54, R55, R277). What arrives at an outstanding read, be it any
bytes or those of any row of the channel, does what the held bytes followed by it would do arriving where nothing is held. The
input grant gives an outstanding read the oldest held bytes, exactly as many as it asks for: the engine does with them what it
does when they arrive, and the others stay held; where fewer are held the read stays outstanding and nothing changes (R43,
R45; the last is the model's choice, notes/assumptions/18.md). The list of held bytes, and arrival in one step, are the
model's (notes/assumptions/3.md, 13.md). -/
def Obligations.HeldBytesComeFirst : Prop :=
  (∀ (s : State) (bs : List Byte), s.sub = .rd → arrive bs s = arrive (s.held ++ bs) { s with held := [] }) ∧
  (∀ (s : State) (i : Instr), s.sub = .rd → i.port = .channel →
    exec i s = .next (arrive (s.held ++ encode i) { s with held := [] })) ∧
  (∀ (s : State) (rest : List Input), s.inbox = .grant :: rest → s.sub = .rd →
    (s.held.length < readLen s.seq → step s = .next { s with inbox := rest }) ∧
    (∀ taken left : List Byte, s.held = taken ++ left → taken.length = readLen s.seq →
      step s = .next { arrive taken { s with held := [], inbox := rest } with held := left }))

/-- A delay loaded with n ends with the n-th tick and not before; meanwhile nothing but the timer changes (R134, R246, R270,
R271). That a step is one tick is the model's choice (notes/assumptions/17.md). -/
def Obligations.DelayLastsItsTicks : Prop :=
  ∀ (s : State) (rest : List Input), s.sub = .dly → 1 ≤ s.timer.toNat →
    (∀ k < s.timer.toNat,
      Host.Core.run Sys2Proof.core k { s with inbox := List.replicate k .tick ++ rest } =
        .next { s with timer := s.timer - BitVec.ofNat 6 k, inbox := rest }) ∧
    Host.Core.run Sys2Proof.core s.timer.toNat { s with inbox := List.replicate s.timer.toNat .tick ++ rest } =
      .next (endDelay { s with inbox := rest })

/-- A failed answer ends POLL and FETCH's command steps at once, with the kind of the place: Timeout in a wait, ShortTransfer
for a body read or a write; no output file is written (R170, R200, R230, R236; the kinds are the spec's decision D7). POLL
without retry is the source's, the scope of FETCH's retries the spec's decision D13. POLL without retry is the source's, the
scope of FETCH's retries the spec's decision D13. That a failed read takes `lost` of the held bytes with it, any number, is
the model's choice where R45 says nothing is known (notes/assumptions/3.md). -/
def Obligations.FailureWithoutRetry : Prop :=
  ∀ (s : State) (lost : Nat) (rest : List Input), s.inbox = .deny lost :: rest →
    ((s.seq = .poSync ∨ s.seq = .feC36Ack ∨ s.seq = .feC23Ack) → s.sub = .rd →
      step s = .next (returned ⟨true, false, .timeout⟩ { s with held := s.held.drop lost, inbox := rest })) ∧
    (s.seq = .poPayload → s.sub = .rd →
      step s = .next (returned ⟨true, false, .shortTransfer⟩ { s with held := s.held.drop lost, inbox := rest })) ∧
    ((s.seq = .poAckTx ∨ s.seq = .feC36Tx ∨ s.seq = .feC23Tx) → s.sub = .wr →
      step s = .next (returned ⟨true, false, .shortTransfer⟩ { s with inbox := rest }))

/-- A failed answer inside FETCH's frame loop is recorded with its kind (Timeout in the wait, ShortTransfer for a body read or
the acknowledge) and retried while TRY < 3; after the third attempt FETCH returns with the kind of that attempt (R141, R170,
R236, R238; the kinds and the one reported are the spec's decisions D7 and D22). That a failed read takes `lost` of the held
bytes with it, any number, is the model's choice where R45 says nothing is known (notes/assumptions/3.md). -/
def Obligations.FetchRetriesFailures : Prop :=
  ∀ (s : State) (lost : Nat) (rest : List Input) (k : ErrKind) (held : List Byte), s.inbox = .deny lost :: rest →
    (s.seq = .feSync ∧ s.sub = .rd ∧ k = .timeout ∧ held = s.held.drop lost) ∨
      ((s.seq = .feSeed ∨ s.seq = .fePayload ∨ s.seq = .feTrail) ∧ s.sub = .rd ∧ k = .shortTransfer ∧
        held = s.held.drop lost) ∨
      (s.seq = .feAckTx ∧ s.sub = .wr ∧ k = .shortTransfer ∧ held = s.held) →
    step s =
      .next
        (if s.tries.toNat < 3 then
          waiting .feSync [] { s with lastErr := k, tries := s.tries + 1, held := held, inbox := rest }
        else returned ⟨true, false, k⟩ { s with lastErr := k, held := held, inbox := rest })

/-- A failed answer in SETUP uses up the attempt: Timeout for a wait, ShortTransfer for a write. While TRY < 3 the next
attempt of the same stage begins, stage 1 with the cue wait and stage 2 with the first byte of the setup write, of the same
TXB; after the third attempt SETUP returns with the kind of that attempt (R141, R186 (a), (b), (d), R236, R238; the spec's
decisions D7, D17 and D22). That a failed read takes `lost` of the held bytes with it, any number, is the model's choice where
R45 says nothing is known (notes/assumptions/3.md). -/
def Obligations.SetupRetriesFailures : Prop :=
  ∀ (s : State) (lost : Nat) (rest : List Input), s.inbox = .deny lost :: rest →
    (∀ (k : ErrKind) (held : List Byte),
      (s.seq = .suCue ∧ s.sub = .rd ∧ k = .timeout ∧ held = s.held.drop lost) ∨
        (s.seq = .suCueAckTx ∧ s.sub = .wr ∧ k = .shortTransfer ∧ held = s.held) →
      step s =
        .next
          (if s.tries.toNat < 3 then
            waiting .suCue [] { s with lastErr := k, tries := s.tries + 1, held := held, inbox := rest }
          else returned ⟨true, false, k⟩ { s with lastErr := k, held := held, inbox := rest })) ∧
    (∀ (k : ErrKind) (held : List Byte),
      (s.seq = .suWrAck ∧ s.sub = .rd ∧ k = .timeout ∧ held = s.held.drop lost) ∨
        (s.seq = .suWrTx ∧ s.sub = .wr ∧ k = .shortTransfer ∧ held = s.held) →
      step s =
        .next
          (if s.tries.toNat < 3 then
            { s with
              lastErr := k
              tries := s.tries + 1
              idx := 0
              seq := .suWrTx
              sub := .wr
              held := held
              inbox := rest
              requests := s.requests ++ [.write 0xA5] }
          else returned ⟨true, false, k⟩ { s with lastErr := k, held := held, inbox := rest }))

/-- A failed answer in HANDSHAKE or TEARDOWN before the nudge never ends the operation (R150, R152; the spec's decisions D9,
D11 and D12). The probe failing begins the first reset command; a reset command that cannot be written, or whose acknowledge
does not come, uses up its attempt, and is followed by the next reset command while TRY < 3 and by the wait of step 3 after
the third; step 3 failing writes the nudge. That a failed read takes `lost` of the held bytes with it, any number, is the
model's choice where R45 says nothing is known (notes/assumptions/3.md). -/
def Obligations.HandshakeGoesOnAfterFailures : Prop :=
  ∀ (s : State) (lost : Nat) (rest : List Input), s.inbox = .deny lost :: rest →
    (s.seq = .hsProbe → s.sub = .rd →
      step s =
        .next (resetCommand { s with tries := 1, held := s.held.drop lost, inbox := rest })) ∧
    (∀ held : List Byte,
      (s.seq = .hsRstTx ∧ s.sub = .wr ∧ held = s.held) ∨
        (s.seq = .hsRstAck ∧ s.sub = .rd ∧ held = s.held.drop lost) →
      step s =
        .next
          (if s.tries.toNat < 3 then resetCommand { s with tries := s.tries + 1, held := held, inbox := rest }
          else waiting .hsSync [] { s with hsState := .awaitingSync, held := held, inbox := rest })) ∧
    (s.seq = .hsSync → s.sub = .rd →
      step s =
        .next { s with
          seq := .hsNudge
          sub := .wr
          held := s.held.drop lost
          inbox := rest
          requests := s.requests ++ [.write 0x06] })

/-! ### Whole exchanges -/

/-- FETCH accepts every record with a correct trailing byte: after the frame and the acknowledge, CST is the record with the
two version bytes reduced by 48, CST_VALID is 1 and the result is `ok` (R172 (1), a derived rule). The version bytes wrap by
the spec's decision D24; the seed is any byte by its D37. The version bytes wrap by the spec's decision D24; the seed is any
byte by its D37; the frame and the acknowledge as one step each are the model's choice (notes/assumptions/13.md). -/
def Obligations.FetchAcceptsCorrectFrames : Prop :=
  ∀ (s : State) (seed : Byte) (record : Vector Byte 21), FreshWait .feSync s →
    ∃ t u, exec (.cstFrame seed record (seed ^^^ fold record.toList ^^^ 0x7F)) s = .next t ∧ exec .ack t = .next u ∧
      u.cst = Vector.ofFn (fun i => if i.val < 19 then record[i] else record[i] - 48) ∧ u.cstValid = true ∧
      u.result = ⟨true, true, .none⟩ ∧ u.busy = false ∧ u.seq = .idle

/-- SETUP with no failure: cue, acknowledge, 28 ms, the setup write of TXB, acknowledge; the result is `ok`, and neither TXB,
CS nor any output file has changed (R186, R188). The stages are the spec's decision D17; frames in one step are the model's
choice (notes/assumptions/13.md). -/
def Obligations.SetupCompletes : Prop :=
  ∀ (s : State) (content : Vector Byte 31) (ck : Byte) (rest : List Input), FreshWait .suCue s →
    s.txb.toList = content.toList ++ [ck] →
    ∃ t u v w x, exec .cue s = .next t ∧ exec .ack t = .next u ∧
      Host.Core.run Sys2Proof.core 28 { u with inbox := List.replicate 28 .tick ++ rest } = .next v ∧
      exec (.setupWrite content ck) v = .next w ∧ exec .ack w = .next x ∧ x.result = ⟨true, true, .none⟩ ∧
      x.busy = false ∧ x.txb = s.txb ∧ x.cs = s.cs ∧ x.cst = s.cst ∧ x.mot = s.mot ∧ x.evt = s.evt ∧
      x.hsState = s.hsState

/-- POLL with a valid frame and an accepted acknowledge: MOT and EVT are the decode of these 8 bytes alone, whatever the state
was (R200, R220). POLL's last lines are the spec's decision D18; a frame in one step is the model's choice
(notes/assumptions/13.md). -/
def Obligations.PollDeliversTheDecode : Prop :=
  ∀ (s : State) (p0 p1 p2 p3 p4 p5 p6 p7 : Byte) (e : EventRec), FreshWait .poSync s →
    fold [p0, p1, p2, p3, p4, p5, p6, p7] = 0x7F → decodeEvent s.params p4 p5 p6 = some e →
    ∃ t u, exec (.pollFrame p0 p1 p2 p3 p4 p5 p6 p7) s = .next t ∧ exec .ack t = .next u ∧
      u.mot = ⟨signMag (p0.getLsbD 0) p1, signMag (p0.getLsbD 1) p2, signMag (p0.getLsbD 2) p3⟩ ∧ u.evt = e ∧
      u.pollValid = true ∧ u.result = ⟨true, true, .none⟩ ∧ u.busy = false ∧ u.cst = s.cst ∧
      u.cstValid = s.cstValid ∧ u.hsState = s.hsState

/-- A handshake pass against a silent console (every read fails, every write is accepted): exactly 15 requests and 6 gaps, and
after it the next pass or, after the last, `err(Timeout)` with HS_STATE Idle (`ok` for TEARDOWN) (R153, R156). The steps rest
on the spec's decisions D9, D10, D11 and D32. The steps rest on the spec's decisions D9, D10, D11 and D32; a reset frame that
passes as one input is the model's choice (notes/assumptions/13.md). -/
def Obligations.SilentHandshakePass : Prop :=
  ∀ (s : State) (rest : List Input), s.seq = .hsProbe → s.sub = .rd → s.op = .handshake ∨ s.op = .teardown →
    s.inbox =
      [.deny 0, .frame [0xA5, 0x16, 0x4C], .deny 0, .frame [0xA5, 0x16, 0x4C], .deny 0, .frame [0xA5, 0x16, 0x4C],
        .deny 0, .deny 0, .grant] ++ rest →
    ∃ t reqs, Host.Core.run Sys2Proof.core 9 s = .next t ∧ t.requests = s.requests ++ reqs ∧ t.inbox = rest ∧
      t.pass = s.pass + 1 ∧
      (reqs.filter fun r => match r with | .write _ => true | _ => false) =
        [.write 0xA5, .write 0x16, .write 0x4C, .write 0xA5, .write 0x16, .write 0x4C, .write 0xA5, .write 0x16,
          .write 0x4C, .write 0x06] ∧
      (reqs.filter fun r => match r with | .delay _ => true | _ => false) = List.replicate 6 (.delay 42) ∧
      (if s.pass + 1 < passesOf s.params then
        t.seq = .hsProbe ∧ t.sub = .rd ∧ t.hsState = .awaitingSync ∧ t.busy = s.busy ∧
          (reqs.filter fun r => match r with | .read _ => true | _ => false) = List.replicate 5 (.read 1)
      else
        t.seq = .idle ∧ t.busy = false ∧ t.hsState = .idle ∧
          t.result = (if s.op = .teardown then ⟨true, true, .none⟩ else ⟨true, false, .timeout⟩) ∧
          (reqs.filter fun r => match r with | .read _ => true | _ => false) = List.replicate 4 (.read 1))

/-! ### Invariants that every step keeps -/

/-- The sequencer stays at the wait-points of the running operation, and SEQ is IDLE exactly when BUSY is 0 (R11, R13). The
labels are the spec's decision D2. -/
def Obligations.EveryStepKeepsStands : Prop := ∀ s t : State, StandsInv s → step s = .next t → StandsInv t

/-- The counters stay inside the bounds of their loops (R14, R125, R141). The widths are the spec's decision D36. -/
def Obligations.EveryStepKeepsCounts : Prop :=
  ∀ s t : State, StandsInv s → CountInv s → step s = .next t → CountInv t

/-- The delay timer runs exactly while a delay is outstanding (R246), and every read runs under the timeout pair of its place,
the write timeout under its reset value (R20, R21, R276). The pairs are the spec's decision D6, the timer its D31. The pairs
are the spec's decision D6, the timer its D31; that an idle timer holds 0 is the model's choice (notes/assumptions/17.md). -/
def Obligations.EveryStepKeepsTimerAndTimeouts : Prop :=
  ∀ s t : State, StandsInv s → TimerInv s → TimeoutInv s → step s = .next t → TimerInv t ∧ TimeoutInv t

/-- At every wait-point exactly the request made last is outstanding (R11, R50). That the state lists its requests is the
model's choice (notes/assumptions/2.md). -/
def Obligations.EveryStepKeepsOneOutstanding : Prop :=
  ∀ s t : State, StandsInv s → OutstandingInv s → step s = .next t → OutstandingInv t

/-- No request but those of R43 and R47 is ever made, and requests made are never taken back (R43, R47, R92). That the state
lists its requests is the model's choice (notes/assumptions/2.md). -/
def Obligations.EveryStepKeepsAllowedRequests : Prop :=
  ∀ s t : State, StandsInv s → RequestsInv s → step s = .next t → RequestsInv t ∧ s.requests <+: t.requests

/-- What is being sent is a command frame of one of the three codes or a setup buffer with its generated checksum, and what
POLL acknowledges is a frame whose fold is 0x7F (R63, R92, R112, R200, R236). The order of POLL's test and acknowledge is the
spec's decision D18, the layout of the setup buffer its D14. -/
def Obligations.EveryStepKeepsSending : Prop :=
  ∀ s t : State, StandsInv s → SendingInv s → step s = .next t → SendingInv t

/-- RESULT is clear while an operation runs, reports only the kinds of R231 after it, and the valid flag of a running
operation's output file is clear (R23, R25, R26, R231); TEARDOWN never reports a kind (R156). The kinds and codes are the
spec's decisions D7 and D22. -/
def Obligations.EveryStepKeepsResult : Prop :=
  ∀ s t : State, StandsInv s → ResultInv s → ValidInv s → step s = .next t → ResultInv t ∧ ValidInv t

/-- The motion values are never -256 and an event's fields fit its tag (R26, R27). The widths and codes are the spec's
decisions D19, D21 and D26. The widths and codes are the spec's decisions D19, D21 and D26; at a reset, after which the spec
leaves MOT and EVT unspecified, it rests on the zeros that are the model's choice (notes/assumptions/5.md). -/
def Obligations.EveryStepKeepsOutputs : Prop := ∀ s t : State, OutputInv s → step s = .next t → OutputInv t

/-- HS_STATE is AwaitingSync, ResettingSent, Idle or Synchronized as the label says (R151, R152). These are the spec's
decision D12. -/
def Obligations.EveryStepKeepsHandshakeState : Prop :=
  ∀ s t : State, StandsInv s → HsInv s → step s = .next t → HsInv t

/-- The machine right after reset meets every invariant. Where the spec leaves a register unspecified, it rests on the model's
reset values (notes/assumptions/5.md, 17.md). -/
def Obligations.ResetMeetsTheInvariants : Prop :=
  ∀ p : Params,
    StandsInv (State.resetWith p) ∧ CountInv (State.resetWith p) ∧ TimerInv (State.resetWith p) ∧
      TimeoutInv (State.resetWith p) ∧ OutstandingInv (State.resetWith p) ∧ RequestsInv (State.resetWith p) ∧
      SendingInv (State.resetWith p) ∧ ResultInv (State.resetWith p) ∧ ValidInv (State.resetWith p) ∧
      OutputInv (State.resetWith p) ∧ HsInv (State.resetWith p)

/-! ### Termination (R142) -/

/-- No operation outlasts the bounds of R142, whatever the environment does. A started operation has exactly the bound of its
kind as its budget; until it has returned or been reset it makes at most that many reads and writes; and where everything
outstanding is answered and every delay ticks on, an operation in progress is over after at most 43 steps for each request of
its budget (the request and the 42 ticks of a gap) and the ticks of the running delay. What the inputs are, and what a step
is, are the model's choice (notes/assumptions/1.md, 2.md, 13.md, 17.md). -/
def Obligations.OperationsEndWithinTheirBound : Prop :=
  (∀ (i : Instr) (o : Op) (s t : State),
    (i, o) ∈ [(Instr.handshake, Op.handshake), (.teardown, .teardown), (.fetch, .fetch), (.setup, .setup), (.poll, .poll)] →
    s.busy = false → exec i s = .next t →
    budget t = requestBound s.params o ∧
    ∀ (n : Nat) (u : State), busyFor n t → Host.Core.run Sys2Proof.core n t = .next u →
      requestsMade u ≤ requestsMade s + requestBound s.params o) ∧
  (∀ s : State, StandsInv s → CountInv s → TimerInv s → SendingInv s →
    (∀ (n : Nat) (v : State), Host.Core.run Sys2Proof.core n s = .next v → v.busy = true →
      ∃ e, v.inbox.head? = some e ∧ answers e v = true) →
    ∃ (n : Nat) (v : State), n ≤ 43 * budget s + s.timer.toNat ∧ Host.Core.run Sys2Proof.core n s = .next v ∧
      v.busy = false)

/-- Every answer spends some of the budget, whatever the answer is, and so does every transfer that carries one or more
answers; a tick spends none, and no input adds to the budget of an operation in progress (R142). What the inputs are, and that
a frame is one step, is the model's choice (notes/assumptions/2.md, 13.md). -/
def Obligations.EveryAnswerSpendsBudget : Prop :=
  ∀ s : State, StandsInv s → CountInv s →
    (∀ lost, s.sub = .rd ∨ s.sub = .wr → budget (deny lost s) < budget s) ∧
    (s.sub = .wr ∨ readReady s = true → budget (grant s) < budget s) ∧ budget (tick s) = budget s ∧
    (∀ (e : Input) (rest : List Input) (t : State), s.inbox = e :: rest → s.busy = true → step s = .next t →
      budget t ≤ budget s ∧ (∀ bs, e = .frame bs → SendingInv s → carries bs s = true → budget t < budget s))

/-! ### Whole-machine rules -/

/-- While an operation runs on, the output files, the valid flags, RESULT and OP stay as they are: outputs are written in one
atomic step at the return (R29, R140). Writing at the return is the spec's decision D3. -/
def Obligations.OutputsWaitForTheReturn : Prop :=
  ∀ s t : State, step s = .next t → s.busy = true → t.busy = true →
    t.cst = s.cst ∧ t.cstValid = s.cstValid ∧ t.mot = s.mot ∧ t.evt = s.evt ∧ t.pollValid = s.pollValid ∧
      t.result = s.result ∧ t.op = s.op

/-- What the client reads (R29, R31): BUSY, OP, HS_STATE and RESULT as they stand, and an output file exactly where its valid
flag is set, for a file under a clear flag has no value. An accepted start changes of it only OP, BUSY, RESULT, the HS_STATE
of a handshake, and takes away the file whose flag it clears; while an operation runs on nothing of it but HS_STATE changes.
R29 is the spec's decision D3; the view as one record with no value for such a file is read from the rules by inference
(notes/assumptions/21.md). -/
def Obligations.ClientReads : Prop :=
  (∀ s : State,
    (clientView s).busy = s.busy ∧ (clientView s).op = s.op ∧ (clientView s).hsState = s.hsState ∧
    (clientView s).result = s.result ∧
    (s.cstValid = true → (clientView s).cst = some s.cst) ∧ (s.cstValid = false → (clientView s).cst = none) ∧
    (s.pollValid = true → (clientView s).mot = some s.mot ∧ (clientView s).evt = some s.evt) ∧
    (s.pollValid = false → (clientView s).mot = none ∧ (clientView s).evt = none)) ∧
  (∀ (s t : State) (code : BitVec 3) (rest : List Input), s.inbox = .start code :: rest → s.busy = false → t.busy = true →
    step s = .next t →
    clientView t =
      { clientView s with
        busy := true
        op := t.op
        result := ⟨false, false, .none⟩
        hsState := if t.op = .handshake ∨ t.op = .teardown then .awaitingSync else s.hsState
        cst := if t.op = .fetch then none else (clientView s).cst
        mot := if t.op = .poll then none else (clientView s).mot
        evt := if t.op = .poll then none else (clientView s).evt } ∧
    opCode t.op = code) ∧
  (∀ s t : State, step s = .next t → s.busy = true → t.busy = true →
    clientView t = { clientView s with hsState := t.hsState })

/-- Short of reset: CST changes only when FETCH returns `ok` after its acknowledge, MOT and EVT only when POLL does, HS_STATE
only by HANDSHAKE and TEARDOWN, CS only by a client write, and the write timeout and the parameters never (R21, R22, R24 to
R28, R154, R173, R188). Where the rules are the spec's decisions they are D3, D12, D13, D18 and D29. -/
def Obligations.OnlyOwnersWrite : Prop :=
  ∀ s t : State, step s = .next t → s.inbox.head? ≠ some .reset →
    (t.cst ≠ s.cst → s.seq = .feAckTx ∧ t.cst = decodeCst s.rxb ∧ t.cstValid = true ∧ t.result = ⟨true, true, .none⟩) ∧
    (t.mot ≠ s.mot ∨ t.evt ≠ s.evt → s.seq = .poAckTx ∧ t.pollValid = true ∧ t.result = ⟨true, true, .none⟩) ∧
    (t.hsState ≠ s.hsState → hsLabel s.seq = true ∨ (s.busy = false ∧ (t.op = .handshake ∨ t.op = .teardown))) ∧
    (t.cs ≠ s.cs → ∃ w, s.inbox.head? = some (.writeCs w) ∧ t.cs = writeField w s.cs) ∧ t.wtoMult = s.wtoMult ∧
    t.params = s.params

/-! ### Reset (70_reset_and_hazards.md) -/

/-- What the spec gives for reset: IDLE and nothing outstanding, OP NONE, BUSY 0, counters, CK, timer and timeouts 0, WTO_MULT
its parameter, HS_STATE Idle, RESULT 0, both valid flags 0, and the fields of CS with a stated default (R11 to R15, R20 to
R26, R246, R260). They are the spec's decisions D28 and D16; the timer's idle as 0 is the model's choice
(notes/assumptions/17.md). -/
def Obligations.ResetValues : Prop :=
  let r := State.reset
  r.seq = .idle ∧ r.sub = .none ∧ r.op = .none ∧ r.busy = false ∧ r.tries = 0 ∧ r.pass = 0 ∧ r.idx = 0 ∧
  r.matched = 0 ∧ r.skip = 0 ∧ r.lastErr = .none ∧ r.ck = 0 ∧ r.rtoMult = 0 ∧ r.rtoConst = 0 ∧
  r.wtoMult = r.params.wtoMultInit ∧ r.hsState = .idle ∧ r.result = ⟨false, false, .none⟩ ∧ r.cstValid = false ∧
  r.pollValid = false ∧ r.timer = 0 ∧ r.cs.nav1Stby = ⟨111, 70⟩ ∧ r.cs.nav1Cur = ⟨111, 70⟩ ∧
  r.cs.nav2Stby = ⟨109, 50⟩ ∧ r.cs.nav2Cur = ⟨109, 50⟩ ∧ r.cs.com = ⟨121, 20⟩ ∧ r.cs.nav1Crs = 180 ∧
  r.cs.nav2Obs = 180 ∧ r.cs.adfBrg = 180 ∧ r.cs.baro = 2992 ∧ r.cs.apHdg = 180

/-- A client write of CS at any time changes that file and nothing else, in particular not TXB, so a running SETUP does not
see it (R24, R52, R274; the spec's decision D17). Reset at any time abandons what is outstanding: the registers are those of
the machine at reset, and only the two timeout requests are made (R260, R261; the spec's decision D28); what the Transport
holds and what comes next stay (the model's choice, notes/assumptions/24.md). Where the spec leaves a register unspecified
after reset (RXB, TXB, CMDB, CST, MOT, EVT), the value here is the zeros of the model's choice (notes/assumptions/5.md). -/
def Obligations.ClientWriteAndReset : Prop :=
  (∀ (s : State) (w : CsWrite) (rest : List Input), s.inbox = .writeCs w :: rest →
    step s = .next { s with cs := writeField w s.cs, inbox := rest }) ∧
  (∀ (s : State) (rest : List Input), s.inbox = .reset :: rest →
    step s =
      .next { State.resetWith s.params with
        held := s.held
        inbox := rest
        requests := s.requests ++ [.setWriteTimeout s.params.wtoMultInit, .setReadTimeout 0 0] })
end

