-- ==== Sys2Proof/Laws/Codec.lean ====
section
/-! SUPPORT. Laws of the codec functions (spec/40_codec.md) and of the buffers: what later proofs cite instead of unfolding
them. -/

namespace Sys2Proof.Machine

@[simp] theorem fold_nil : fold [] = 0 := rfl

@[simp] theorem fold_cons (b : Byte) (l : List Byte) : fold (b :: l) = b ^^^ fold l := rfl

@[simp] theorem vecOf_getElem {n : Nat} (l : List Byte) (i : Nat) (h : i < n) : (vecOf n l)[i] = l.getD i 0 := by
  simp [vecOf]

theorem vecOf_toList_of_length {n : Nat} (l : List Byte) (h : l.length = n) : (vecOf n l).toList = l := by
  subst h
  apply List.ext_getElem
  · simp
  · intro i h1 h2
    simp only [Vector.getElem_toList, vecOf_getElem]
    simp [List.getD_eq_getElem?_getD, h2]

@[simp] theorem vecOf_toList {n : Nat} (v : Vector Byte n) : vecOf n v.toList = v := by
  apply Vector.ext
  intro i h
  simp [List.getD_eq_getElem?_getD, h]

@[simp] theorem outFrame_length (s : State) : (outFrame s).length = if s.seq = .suWrTx then 34 else 3 := by
  unfold outFrame
  split <;> simp [setupHeader]

theorem readLen_pos (l : Label) : 0 < readLen l := by
  cases l <;> decide

/-- Every group of the setup buffer has the same number of bytes whatever the settings are (R76). -/
theorem groupBytes_length (cs cs' : ConsoleState) (g : SetupGroup) :
    (groupBytes cs g).length = (groupBytes cs' g).length := by
  cases g <;> rfl

/-- The layout in force holds every group exactly once (R76). -/
theorem layoutOf_perm (p : Params) : (layoutOf p).Perm defaultLayout := by
  unfold layoutOf
  split
  · rename_i h
    exact List.isPerm_iff.mp h
  · exact List.Perm.refl _

/-- The content of the setup buffer is 31 bytes under every layout (R76, R112). -/
theorem setupContent_length (p : Params) (cs : ConsoleState) : (setupContent (layoutOf p) cs).length = 31 := by
  have h : (setupContent (layoutOf p) cs).Perm (setupContent defaultLayout cs) :=
    (layoutOf_perm p).flatMap_right _
  rw [h.length_eq]
  rfl

end Sys2Proof.Machine
end

