-- ==== Sys2Proof/Laws/State.lean ====
section
/-! SUPPORT. What each named update of the state does to each field: one lemma per field per update, all by rfl, so that no later
proof unfolds a record update. -/

namespace Sys2Proof.Machine

variable (s : State)

@[simp] theorem emit_seq (r : Request) : (emit r s).seq = s.seq := rfl
@[simp] theorem emit_sub (r : Request) : (emit r s).sub = s.sub := rfl
@[simp] theorem emit_op (r : Request) : (emit r s).op = s.op := rfl
@[simp] theorem emit_busy (r : Request) : (emit r s).busy = s.busy := rfl
@[simp] theorem emit_tries (r : Request) : (emit r s).tries = s.tries := rfl
@[simp] theorem emit_pass (r : Request) : (emit r s).pass = s.pass := rfl
@[simp] theorem emit_idx (r : Request) : (emit r s).idx = s.idx := rfl
@[simp] theorem emit_matched (r : Request) : (emit r s).matched = s.matched := rfl
@[simp] theorem emit_skip (r : Request) : (emit r s).skip = s.skip := rfl
@[simp] theorem emit_lastErr (r : Request) : (emit r s).lastErr = s.lastErr := rfl
@[simp] theorem emit_ck (r : Request) : (emit r s).ck = s.ck := rfl
@[simp] theorem emit_rxb (r : Request) : (emit r s).rxb = s.rxb := rfl
@[simp] theorem emit_txb (r : Request) : (emit r s).txb = s.txb := rfl
@[simp] theorem emit_cmdb (r : Request) : (emit r s).cmdb = s.cmdb := rfl
@[simp] theorem emit_rtoMult (r : Request) : (emit r s).rtoMult = s.rtoMult := rfl
@[simp] theorem emit_rtoConst (r : Request) : (emit r s).rtoConst = s.rtoConst := rfl
@[simp] theorem emit_wtoMult (r : Request) : (emit r s).wtoMult = s.wtoMult := rfl
@[simp] theorem emit_hsState (r : Request) : (emit r s).hsState = s.hsState := rfl
@[simp] theorem emit_result (r : Request) : (emit r s).result = s.result := rfl
@[simp] theorem emit_cs (r : Request) : (emit r s).cs = s.cs := rfl
@[simp] theorem emit_cst (r : Request) : (emit r s).cst = s.cst := rfl
@[simp] theorem emit_cstValid (r : Request) : (emit r s).cstValid = s.cstValid := rfl
@[simp] theorem emit_mot (r : Request) : (emit r s).mot = s.mot := rfl
@[simp] theorem emit_evt (r : Request) : (emit r s).evt = s.evt := rfl
@[simp] theorem emit_pollValid (r : Request) : (emit r s).pollValid = s.pollValid := rfl
@[simp] theorem emit_timer (r : Request) : (emit r s).timer = s.timer := rfl
@[simp] theorem emit_params (r : Request) : (emit r s).params = s.params := rfl
@[simp] theorem emit_held (r : Request) : (emit r s).held = s.held := rfl
@[simp] theorem emit_inbox (r : Request) : (emit r s).inbox = s.inbox := rfl
@[simp] theorem emit_requests (r : Request) : (emit r s).requests = s.requests ++ [r] := rfl

@[simp] theorem standAt_seq (l : Label) (u : Sub) : (standAt l u s).seq = l := rfl
@[simp] theorem standAt_sub (l : Label) (u : Sub) : (standAt l u s).sub = u := rfl
@[simp] theorem standAt_op (l : Label) (u : Sub) : (standAt l u s).op = s.op := rfl
@[simp] theorem standAt_busy (l : Label) (u : Sub) : (standAt l u s).busy = s.busy := rfl
@[simp] theorem standAt_tries (l : Label) (u : Sub) : (standAt l u s).tries = s.tries := rfl
@[simp] theorem standAt_pass (l : Label) (u : Sub) : (standAt l u s).pass = s.pass := rfl
@[simp] theorem standAt_idx (l : Label) (u : Sub) : (standAt l u s).idx = s.idx := rfl
@[simp] theorem standAt_matched (l : Label) (u : Sub) : (standAt l u s).matched = s.matched := rfl
@[simp] theorem standAt_skip (l : Label) (u : Sub) : (standAt l u s).skip = s.skip := rfl
@[simp] theorem standAt_lastErr (l : Label) (u : Sub) : (standAt l u s).lastErr = s.lastErr := rfl
@[simp] theorem standAt_ck (l : Label) (u : Sub) : (standAt l u s).ck = s.ck := rfl
@[simp] theorem standAt_rxb (l : Label) (u : Sub) : (standAt l u s).rxb = s.rxb := rfl
@[simp] theorem standAt_txb (l : Label) (u : Sub) : (standAt l u s).txb = s.txb := rfl
@[simp] theorem standAt_cmdb (l : Label) (u : Sub) : (standAt l u s).cmdb = s.cmdb := rfl
@[simp] theorem standAt_rtoMult (l : Label) (u : Sub) : (standAt l u s).rtoMult = s.rtoMult := rfl
@[simp] theorem standAt_rtoConst (l : Label) (u : Sub) : (standAt l u s).rtoConst = s.rtoConst := rfl
@[simp] theorem standAt_wtoMult (l : Label) (u : Sub) : (standAt l u s).wtoMult = s.wtoMult := rfl
@[simp] theorem standAt_hsState (l : Label) (u : Sub) : (standAt l u s).hsState = s.hsState := rfl
@[simp] theorem standAt_result (l : Label) (u : Sub) : (standAt l u s).result = s.result := rfl
@[simp] theorem standAt_cs (l : Label) (u : Sub) : (standAt l u s).cs = s.cs := rfl
@[simp] theorem standAt_cst (l : Label) (u : Sub) : (standAt l u s).cst = s.cst := rfl
@[simp] theorem standAt_cstValid (l : Label) (u : Sub) : (standAt l u s).cstValid = s.cstValid := rfl
@[simp] theorem standAt_mot (l : Label) (u : Sub) : (standAt l u s).mot = s.mot := rfl
@[simp] theorem standAt_evt (l : Label) (u : Sub) : (standAt l u s).evt = s.evt := rfl
@[simp] theorem standAt_pollValid (l : Label) (u : Sub) : (standAt l u s).pollValid = s.pollValid := rfl
@[simp] theorem standAt_timer (l : Label) (u : Sub) : (standAt l u s).timer = s.timer := rfl
@[simp] theorem standAt_params (l : Label) (u : Sub) : (standAt l u s).params = s.params := rfl
@[simp] theorem standAt_held (l : Label) (u : Sub) : (standAt l u s).held = s.held := rfl
@[simp] theorem standAt_inbox (l : Label) (u : Sub) : (standAt l u s).inbox = s.inbox := rfl
@[simp] theorem standAt_requests (l : Label) (u : Sub) : (standAt l u s).requests = s.requests := rfl

@[simp] theorem issueRead_seq (l : Label) : (issueRead l s).seq = l := rfl
@[simp] theorem issueRead_sub (l : Label) : (issueRead l s).sub = .rd := rfl
@[simp] theorem issueRead_op (l : Label) : (issueRead l s).op = s.op := rfl
@[simp] theorem issueRead_busy (l : Label) : (issueRead l s).busy = s.busy := rfl
@[simp] theorem issueRead_tries (l : Label) : (issueRead l s).tries = s.tries := rfl
@[simp] theorem issueRead_pass (l : Label) : (issueRead l s).pass = s.pass := rfl
@[simp] theorem issueRead_idx (l : Label) : (issueRead l s).idx = s.idx := rfl
@[simp] theorem issueRead_matched (l : Label) : (issueRead l s).matched = s.matched := rfl
@[simp] theorem issueRead_skip (l : Label) : (issueRead l s).skip = s.skip := rfl
@[simp] theorem issueRead_lastErr (l : Label) : (issueRead l s).lastErr = s.lastErr := rfl
@[simp] theorem issueRead_ck (l : Label) : (issueRead l s).ck = s.ck := rfl
@[simp] theorem issueRead_rxb (l : Label) : (issueRead l s).rxb = s.rxb := rfl
@[simp] theorem issueRead_txb (l : Label) : (issueRead l s).txb = s.txb := rfl
@[simp] theorem issueRead_cmdb (l : Label) : (issueRead l s).cmdb = s.cmdb := rfl
@[simp] theorem issueRead_rtoMult (l : Label) : (issueRead l s).rtoMult = s.rtoMult := rfl
@[simp] theorem issueRead_rtoConst (l : Label) : (issueRead l s).rtoConst = s.rtoConst := rfl
@[simp] theorem issueRead_wtoMult (l : Label) : (issueRead l s).wtoMult = s.wtoMult := rfl
@[simp] theorem issueRead_hsState (l : Label) : (issueRead l s).hsState = s.hsState := rfl
@[simp] theorem issueRead_result (l : Label) : (issueRead l s).result = s.result := rfl
@[simp] theorem issueRead_cs (l : Label) : (issueRead l s).cs = s.cs := rfl
@[simp] theorem issueRead_cst (l : Label) : (issueRead l s).cst = s.cst := rfl
@[simp] theorem issueRead_cstValid (l : Label) : (issueRead l s).cstValid = s.cstValid := rfl
@[simp] theorem issueRead_mot (l : Label) : (issueRead l s).mot = s.mot := rfl
@[simp] theorem issueRead_evt (l : Label) : (issueRead l s).evt = s.evt := rfl
@[simp] theorem issueRead_pollValid (l : Label) : (issueRead l s).pollValid = s.pollValid := rfl
@[simp] theorem issueRead_timer (l : Label) : (issueRead l s).timer = s.timer := rfl
@[simp] theorem issueRead_params (l : Label) : (issueRead l s).params = s.params := rfl
@[simp] theorem issueRead_held (l : Label) : (issueRead l s).held = s.held := rfl
@[simp] theorem issueRead_inbox (l : Label) : (issueRead l s).inbox = s.inbox := rfl
@[simp] theorem issueRead_requests (l : Label) : (issueRead l s).requests = s.requests ++ [.read (readLen l)] := rfl

@[simp] theorem issueWrite_seq (l : Label) : (issueWrite l s).seq = l := rfl
@[simp] theorem issueWrite_sub (l : Label) : (issueWrite l s).sub = .wr := rfl
@[simp] theorem issueWrite_op (l : Label) : (issueWrite l s).op = s.op := rfl
@[simp] theorem issueWrite_busy (l : Label) : (issueWrite l s).busy = s.busy := rfl
@[simp] theorem issueWrite_tries (l : Label) : (issueWrite l s).tries = s.tries := rfl
@[simp] theorem issueWrite_pass (l : Label) : (issueWrite l s).pass = s.pass := rfl
@[simp] theorem issueWrite_idx (l : Label) : (issueWrite l s).idx = s.idx := rfl
@[simp] theorem issueWrite_matched (l : Label) : (issueWrite l s).matched = s.matched := rfl
@[simp] theorem issueWrite_skip (l : Label) : (issueWrite l s).skip = s.skip := rfl
@[simp] theorem issueWrite_lastErr (l : Label) : (issueWrite l s).lastErr = s.lastErr := rfl
@[simp] theorem issueWrite_ck (l : Label) : (issueWrite l s).ck = s.ck := rfl
@[simp] theorem issueWrite_rxb (l : Label) : (issueWrite l s).rxb = s.rxb := rfl
@[simp] theorem issueWrite_txb (l : Label) : (issueWrite l s).txb = s.txb := rfl
@[simp] theorem issueWrite_cmdb (l : Label) : (issueWrite l s).cmdb = s.cmdb := rfl
@[simp] theorem issueWrite_rtoMult (l : Label) : (issueWrite l s).rtoMult = s.rtoMult := rfl
@[simp] theorem issueWrite_rtoConst (l : Label) : (issueWrite l s).rtoConst = s.rtoConst := rfl
@[simp] theorem issueWrite_wtoMult (l : Label) : (issueWrite l s).wtoMult = s.wtoMult := rfl
@[simp] theorem issueWrite_hsState (l : Label) : (issueWrite l s).hsState = s.hsState := rfl
@[simp] theorem issueWrite_result (l : Label) : (issueWrite l s).result = s.result := rfl
@[simp] theorem issueWrite_cs (l : Label) : (issueWrite l s).cs = s.cs := rfl
@[simp] theorem issueWrite_cst (l : Label) : (issueWrite l s).cst = s.cst := rfl
@[simp] theorem issueWrite_cstValid (l : Label) : (issueWrite l s).cstValid = s.cstValid := rfl
@[simp] theorem issueWrite_mot (l : Label) : (issueWrite l s).mot = s.mot := rfl
@[simp] theorem issueWrite_evt (l : Label) : (issueWrite l s).evt = s.evt := rfl
@[simp] theorem issueWrite_pollValid (l : Label) : (issueWrite l s).pollValid = s.pollValid := rfl
@[simp] theorem issueWrite_timer (l : Label) : (issueWrite l s).timer = s.timer := rfl
@[simp] theorem issueWrite_params (l : Label) : (issueWrite l s).params = s.params := rfl
@[simp] theorem issueWrite_held (l : Label) : (issueWrite l s).held = s.held := rfl
@[simp] theorem issueWrite_inbox (l : Label) : (issueWrite l s).inbox = s.inbox := rfl
@[simp] theorem issueWrite_requests (l : Label) : (issueWrite l s).requests = s.requests ++ [.write (outByte (standAt l .wr s))] := rfl

@[simp] theorem beginDelay_seq (l : Label) (n : Nat) : (beginDelay l n s).seq = l := rfl
@[simp] theorem beginDelay_sub (l : Label) (n : Nat) : (beginDelay l n s).sub = .dly := rfl
@[simp] theorem beginDelay_op (l : Label) (n : Nat) : (beginDelay l n s).op = s.op := rfl
@[simp] theorem beginDelay_busy (l : Label) (n : Nat) : (beginDelay l n s).busy = s.busy := rfl
@[simp] theorem beginDelay_tries (l : Label) (n : Nat) : (beginDelay l n s).tries = s.tries := rfl
@[simp] theorem beginDelay_pass (l : Label) (n : Nat) : (beginDelay l n s).pass = s.pass := rfl
@[simp] theorem beginDelay_idx (l : Label) (n : Nat) : (beginDelay l n s).idx = s.idx := rfl
@[simp] theorem beginDelay_matched (l : Label) (n : Nat) : (beginDelay l n s).matched = s.matched := rfl
@[simp] theorem beginDelay_skip (l : Label) (n : Nat) : (beginDelay l n s).skip = s.skip := rfl
@[simp] theorem beginDelay_lastErr (l : Label) (n : Nat) : (beginDelay l n s).lastErr = s.lastErr := rfl
@[simp] theorem beginDelay_ck (l : Label) (n : Nat) : (beginDelay l n s).ck = s.ck := rfl
@[simp] theorem beginDelay_rxb (l : Label) (n : Nat) : (beginDelay l n s).rxb = s.rxb := rfl
@[simp] theorem beginDelay_txb (l : Label) (n : Nat) : (beginDelay l n s).txb = s.txb := rfl
@[simp] theorem beginDelay_cmdb (l : Label) (n : Nat) : (beginDelay l n s).cmdb = s.cmdb := rfl
@[simp] theorem beginDelay_rtoMult (l : Label) (n : Nat) : (beginDelay l n s).rtoMult = s.rtoMult := rfl
@[simp] theorem beginDelay_rtoConst (l : Label) (n : Nat) : (beginDelay l n s).rtoConst = s.rtoConst := rfl
@[simp] theorem beginDelay_wtoMult (l : Label) (n : Nat) : (beginDelay l n s).wtoMult = s.wtoMult := rfl
@[simp] theorem beginDelay_hsState (l : Label) (n : Nat) : (beginDelay l n s).hsState = s.hsState := rfl
@[simp] theorem beginDelay_result (l : Label) (n : Nat) : (beginDelay l n s).result = s.result := rfl
@[simp] theorem beginDelay_cs (l : Label) (n : Nat) : (beginDelay l n s).cs = s.cs := rfl
@[simp] theorem beginDelay_cst (l : Label) (n : Nat) : (beginDelay l n s).cst = s.cst := rfl
@[simp] theorem beginDelay_cstValid (l : Label) (n : Nat) : (beginDelay l n s).cstValid = s.cstValid := rfl
@[simp] theorem beginDelay_mot (l : Label) (n : Nat) : (beginDelay l n s).mot = s.mot := rfl
@[simp] theorem beginDelay_evt (l : Label) (n : Nat) : (beginDelay l n s).evt = s.evt := rfl
@[simp] theorem beginDelay_pollValid (l : Label) (n : Nat) : (beginDelay l n s).pollValid = s.pollValid := rfl
@[simp] theorem beginDelay_timer (l : Label) (n : Nat) : (beginDelay l n s).timer = BitVec.ofNat 6 n := rfl
@[simp] theorem beginDelay_params (l : Label) (n : Nat) : (beginDelay l n s).params = s.params := rfl
@[simp] theorem beginDelay_held (l : Label) (n : Nat) : (beginDelay l n s).held = s.held := rfl
@[simp] theorem beginDelay_inbox (l : Label) (n : Nat) : (beginDelay l n s).inbox = s.inbox := rfl
@[simp] theorem beginDelay_requests (l : Label) (n : Nat) : (beginDelay l n s).requests = s.requests ++ [.delay n] := rfl

@[simp] theorem setRto_seq (m c : Half) : (setRto m c s).seq = s.seq := rfl
@[simp] theorem setRto_sub (m c : Half) : (setRto m c s).sub = s.sub := rfl
@[simp] theorem setRto_op (m c : Half) : (setRto m c s).op = s.op := rfl
@[simp] theorem setRto_busy (m c : Half) : (setRto m c s).busy = s.busy := rfl
@[simp] theorem setRto_tries (m c : Half) : (setRto m c s).tries = s.tries := rfl
@[simp] theorem setRto_pass (m c : Half) : (setRto m c s).pass = s.pass := rfl
@[simp] theorem setRto_idx (m c : Half) : (setRto m c s).idx = s.idx := rfl
@[simp] theorem setRto_matched (m c : Half) : (setRto m c s).matched = s.matched := rfl
@[simp] theorem setRto_skip (m c : Half) : (setRto m c s).skip = s.skip := rfl
@[simp] theorem setRto_lastErr (m c : Half) : (setRto m c s).lastErr = s.lastErr := rfl
@[simp] theorem setRto_ck (m c : Half) : (setRto m c s).ck = s.ck := rfl
@[simp] theorem setRto_rxb (m c : Half) : (setRto m c s).rxb = s.rxb := rfl
@[simp] theorem setRto_txb (m c : Half) : (setRto m c s).txb = s.txb := rfl
@[simp] theorem setRto_cmdb (m c : Half) : (setRto m c s).cmdb = s.cmdb := rfl
@[simp] theorem setRto_rtoMult (m c : Half) : (setRto m c s).rtoMult = m := rfl
@[simp] theorem setRto_rtoConst (m c : Half) : (setRto m c s).rtoConst = c := rfl
@[simp] theorem setRto_wtoMult (m c : Half) : (setRto m c s).wtoMult = s.wtoMult := rfl
@[simp] theorem setRto_hsState (m c : Half) : (setRto m c s).hsState = s.hsState := rfl
@[simp] theorem setRto_result (m c : Half) : (setRto m c s).result = s.result := rfl
@[simp] theorem setRto_cs (m c : Half) : (setRto m c s).cs = s.cs := rfl
@[simp] theorem setRto_cst (m c : Half) : (setRto m c s).cst = s.cst := rfl
@[simp] theorem setRto_cstValid (m c : Half) : (setRto m c s).cstValid = s.cstValid := rfl
@[simp] theorem setRto_mot (m c : Half) : (setRto m c s).mot = s.mot := rfl
@[simp] theorem setRto_evt (m c : Half) : (setRto m c s).evt = s.evt := rfl
@[simp] theorem setRto_pollValid (m c : Half) : (setRto m c s).pollValid = s.pollValid := rfl
@[simp] theorem setRto_timer (m c : Half) : (setRto m c s).timer = s.timer := rfl
@[simp] theorem setRto_params (m c : Half) : (setRto m c s).params = s.params := rfl
@[simp] theorem setRto_held (m c : Half) : (setRto m c s).held = s.held := rfl
@[simp] theorem setRto_inbox (m c : Half) : (setRto m c s).inbox = s.inbox := rfl
@[simp] theorem setRto_requests (m c : Half) : (setRto m c s).requests = s.requests ++ [.setReadTimeout m c] := rfl

@[simp] theorem beginWait_seq (l : Label) : (beginWait l s).seq = l := rfl
@[simp] theorem beginWait_sub (l : Label) : (beginWait l s).sub = .rd := rfl
@[simp] theorem beginWait_op (l : Label) : (beginWait l s).op = s.op := rfl
@[simp] theorem beginWait_busy (l : Label) : (beginWait l s).busy = s.busy := rfl
@[simp] theorem beginWait_tries (l : Label) : (beginWait l s).tries = s.tries := rfl
@[simp] theorem beginWait_pass (l : Label) : (beginWait l s).pass = s.pass := rfl
@[simp] theorem beginWait_idx (l : Label) : (beginWait l s).idx = s.idx := rfl
@[simp] theorem beginWait_matched (l : Label) : (beginWait l s).matched = 0 := rfl
@[simp] theorem beginWait_skip (l : Label) : (beginWait l s).skip = 0 := rfl
@[simp] theorem beginWait_lastErr (l : Label) : (beginWait l s).lastErr = s.lastErr := rfl
@[simp] theorem beginWait_ck (l : Label) : (beginWait l s).ck = s.ck := rfl
@[simp] theorem beginWait_rxb (l : Label) : (beginWait l s).rxb = s.rxb := rfl
@[simp] theorem beginWait_txb (l : Label) : (beginWait l s).txb = s.txb := rfl
@[simp] theorem beginWait_cmdb (l : Label) : (beginWait l s).cmdb = s.cmdb := rfl
@[simp] theorem beginWait_rtoMult (l : Label) : (beginWait l s).rtoMult = 0 := rfl
@[simp] theorem beginWait_rtoConst (l : Label) : (beginWait l s).rtoConst = waitBound l := rfl
@[simp] theorem beginWait_wtoMult (l : Label) : (beginWait l s).wtoMult = s.wtoMult := rfl
@[simp] theorem beginWait_hsState (l : Label) : (beginWait l s).hsState = s.hsState := rfl
@[simp] theorem beginWait_result (l : Label) : (beginWait l s).result = s.result := rfl
@[simp] theorem beginWait_cs (l : Label) : (beginWait l s).cs = s.cs := rfl
@[simp] theorem beginWait_cst (l : Label) : (beginWait l s).cst = s.cst := rfl
@[simp] theorem beginWait_cstValid (l : Label) : (beginWait l s).cstValid = s.cstValid := rfl
@[simp] theorem beginWait_mot (l : Label) : (beginWait l s).mot = s.mot := rfl
@[simp] theorem beginWait_evt (l : Label) : (beginWait l s).evt = s.evt := rfl
@[simp] theorem beginWait_pollValid (l : Label) : (beginWait l s).pollValid = s.pollValid := rfl
@[simp] theorem beginWait_timer (l : Label) : (beginWait l s).timer = s.timer := rfl
@[simp] theorem beginWait_params (l : Label) : (beginWait l s).params = s.params := rfl
@[simp] theorem beginWait_held (l : Label) : (beginWait l s).held = s.held := rfl
@[simp] theorem beginWait_inbox (l : Label) : (beginWait l s).inbox = s.inbox := rfl
@[simp] theorem beginWait_requests (l : Label) : (beginWait l s).requests = s.requests ++ [.setReadTimeout 0 (waitBound l)] ++ [.read (readLen l)] := rfl

@[simp] theorem sendCommand_seq (l : Label) (c : Byte) : (sendCommand l c s).seq = l := rfl
@[simp] theorem sendCommand_sub (l : Label) (c : Byte) : (sendCommand l c s).sub = .wr := rfl
@[simp] theorem sendCommand_op (l : Label) (c : Byte) : (sendCommand l c s).op = s.op := rfl
@[simp] theorem sendCommand_busy (l : Label) (c : Byte) : (sendCommand l c s).busy = s.busy := rfl
@[simp] theorem sendCommand_tries (l : Label) (c : Byte) : (sendCommand l c s).tries = s.tries := rfl
@[simp] theorem sendCommand_pass (l : Label) (c : Byte) : (sendCommand l c s).pass = s.pass := rfl
@[simp] theorem sendCommand_idx (l : Label) (c : Byte) : (sendCommand l c s).idx = 0 := rfl
@[simp] theorem sendCommand_matched (l : Label) (c : Byte) : (sendCommand l c s).matched = s.matched := rfl
@[simp] theorem sendCommand_skip (l : Label) (c : Byte) : (sendCommand l c s).skip = s.skip := rfl
@[simp] theorem sendCommand_lastErr (l : Label) (c : Byte) : (sendCommand l c s).lastErr = s.lastErr := rfl
@[simp] theorem sendCommand_ck (l : Label) (c : Byte) : (sendCommand l c s).ck = s.ck := rfl
@[simp] theorem sendCommand_rxb (l : Label) (c : Byte) : (sendCommand l c s).rxb = s.rxb := rfl
@[simp] theorem sendCommand_txb (l : Label) (c : Byte) : (sendCommand l c s).txb = s.txb := rfl
@[simp] theorem sendCommand_cmdb (l : Label) (c : Byte) : (sendCommand l c s).cmdb = vecOf 3 (cmdFrame c) := rfl
@[simp] theorem sendCommand_rtoMult (l : Label) (c : Byte) : (sendCommand l c s).rtoMult = s.rtoMult := rfl
@[simp] theorem sendCommand_rtoConst (l : Label) (c : Byte) : (sendCommand l c s).rtoConst = s.rtoConst := rfl
@[simp] theorem sendCommand_wtoMult (l : Label) (c : Byte) : (sendCommand l c s).wtoMult = s.wtoMult := rfl
@[simp] theorem sendCommand_hsState (l : Label) (c : Byte) : (sendCommand l c s).hsState = s.hsState := rfl
@[simp] theorem sendCommand_result (l : Label) (c : Byte) : (sendCommand l c s).result = s.result := rfl
@[simp] theorem sendCommand_cs (l : Label) (c : Byte) : (sendCommand l c s).cs = s.cs := rfl
@[simp] theorem sendCommand_cst (l : Label) (c : Byte) : (sendCommand l c s).cst = s.cst := rfl
@[simp] theorem sendCommand_cstValid (l : Label) (c : Byte) : (sendCommand l c s).cstValid = s.cstValid := rfl
@[simp] theorem sendCommand_mot (l : Label) (c : Byte) : (sendCommand l c s).mot = s.mot := rfl
@[simp] theorem sendCommand_evt (l : Label) (c : Byte) : (sendCommand l c s).evt = s.evt := rfl
@[simp] theorem sendCommand_pollValid (l : Label) (c : Byte) : (sendCommand l c s).pollValid = s.pollValid := rfl
@[simp] theorem sendCommand_timer (l : Label) (c : Byte) : (sendCommand l c s).timer = s.timer := rfl
@[simp] theorem sendCommand_params (l : Label) (c : Byte) : (sendCommand l c s).params = s.params := rfl
@[simp] theorem sendCommand_held (l : Label) (c : Byte) : (sendCommand l c s).held = s.held := rfl
@[simp] theorem sendCommand_inbox (l : Label) (c : Byte) : (sendCommand l c s).inbox = s.inbox := rfl

@[simp] theorem beginFrame_seq (l : Label) : (beginFrame l s).seq = l := rfl
@[simp] theorem beginFrame_sub (l : Label) : (beginFrame l s).sub = .wr := rfl
@[simp] theorem beginFrame_op (l : Label) : (beginFrame l s).op = s.op := rfl
@[simp] theorem beginFrame_busy (l : Label) : (beginFrame l s).busy = s.busy := rfl
@[simp] theorem beginFrame_tries (l : Label) : (beginFrame l s).tries = s.tries := rfl
@[simp] theorem beginFrame_pass (l : Label) : (beginFrame l s).pass = s.pass := rfl
@[simp] theorem beginFrame_idx (l : Label) : (beginFrame l s).idx = 0 := rfl
@[simp] theorem beginFrame_matched (l : Label) : (beginFrame l s).matched = s.matched := rfl
@[simp] theorem beginFrame_skip (l : Label) : (beginFrame l s).skip = s.skip := rfl
@[simp] theorem beginFrame_lastErr (l : Label) : (beginFrame l s).lastErr = s.lastErr := rfl
@[simp] theorem beginFrame_ck (l : Label) : (beginFrame l s).ck = s.ck := rfl
@[simp] theorem beginFrame_rxb (l : Label) : (beginFrame l s).rxb = s.rxb := rfl
@[simp] theorem beginFrame_txb (l : Label) : (beginFrame l s).txb = s.txb := rfl
@[simp] theorem beginFrame_cmdb (l : Label) : (beginFrame l s).cmdb = s.cmdb := rfl
@[simp] theorem beginFrame_rtoMult (l : Label) : (beginFrame l s).rtoMult = s.rtoMult := rfl
@[simp] theorem beginFrame_rtoConst (l : Label) : (beginFrame l s).rtoConst = s.rtoConst := rfl
@[simp] theorem beginFrame_wtoMult (l : Label) : (beginFrame l s).wtoMult = s.wtoMult := rfl
@[simp] theorem beginFrame_hsState (l : Label) : (beginFrame l s).hsState = s.hsState := rfl
@[simp] theorem beginFrame_result (l : Label) : (beginFrame l s).result = s.result := rfl
@[simp] theorem beginFrame_cs (l : Label) : (beginFrame l s).cs = s.cs := rfl
@[simp] theorem beginFrame_cst (l : Label) : (beginFrame l s).cst = s.cst := rfl
@[simp] theorem beginFrame_cstValid (l : Label) : (beginFrame l s).cstValid = s.cstValid := rfl
@[simp] theorem beginFrame_mot (l : Label) : (beginFrame l s).mot = s.mot := rfl
@[simp] theorem beginFrame_evt (l : Label) : (beginFrame l s).evt = s.evt := rfl
@[simp] theorem beginFrame_pollValid (l : Label) : (beginFrame l s).pollValid = s.pollValid := rfl
@[simp] theorem beginFrame_timer (l : Label) : (beginFrame l s).timer = s.timer := rfl
@[simp] theorem beginFrame_params (l : Label) : (beginFrame l s).params = s.params := rfl
@[simp] theorem beginFrame_held (l : Label) : (beginFrame l s).held = s.held := rfl
@[simp] theorem beginFrame_inbox (l : Label) : (beginFrame l s).inbox = s.inbox := rfl

@[simp] theorem raiseErr_seq (k : ErrKind) : (raiseErr k s).seq = s.seq := rfl
@[simp] theorem raiseErr_sub (k : ErrKind) : (raiseErr k s).sub = s.sub := rfl
@[simp] theorem raiseErr_op (k : ErrKind) : (raiseErr k s).op = s.op := rfl
@[simp] theorem raiseErr_busy (k : ErrKind) : (raiseErr k s).busy = s.busy := rfl
@[simp] theorem raiseErr_tries (k : ErrKind) : (raiseErr k s).tries = s.tries := rfl
@[simp] theorem raiseErr_pass (k : ErrKind) : (raiseErr k s).pass = s.pass := rfl
@[simp] theorem raiseErr_idx (k : ErrKind) : (raiseErr k s).idx = s.idx := rfl
@[simp] theorem raiseErr_matched (k : ErrKind) : (raiseErr k s).matched = s.matched := rfl
@[simp] theorem raiseErr_skip (k : ErrKind) : (raiseErr k s).skip = s.skip := rfl
@[simp] theorem raiseErr_lastErr (k : ErrKind) : (raiseErr k s).lastErr = k := rfl
@[simp] theorem raiseErr_ck (k : ErrKind) : (raiseErr k s).ck = s.ck := rfl
@[simp] theorem raiseErr_rxb (k : ErrKind) : (raiseErr k s).rxb = s.rxb := rfl
@[simp] theorem raiseErr_txb (k : ErrKind) : (raiseErr k s).txb = s.txb := rfl
@[simp] theorem raiseErr_cmdb (k : ErrKind) : (raiseErr k s).cmdb = s.cmdb := rfl
@[simp] theorem raiseErr_rtoMult (k : ErrKind) : (raiseErr k s).rtoMult = s.rtoMult := rfl
@[simp] theorem raiseErr_rtoConst (k : ErrKind) : (raiseErr k s).rtoConst = s.rtoConst := rfl
@[simp] theorem raiseErr_wtoMult (k : ErrKind) : (raiseErr k s).wtoMult = s.wtoMult := rfl
@[simp] theorem raiseErr_hsState (k : ErrKind) : (raiseErr k s).hsState = s.hsState := rfl
@[simp] theorem raiseErr_result (k : ErrKind) : (raiseErr k s).result = s.result := rfl
@[simp] theorem raiseErr_cs (k : ErrKind) : (raiseErr k s).cs = s.cs := rfl
@[simp] theorem raiseErr_cst (k : ErrKind) : (raiseErr k s).cst = s.cst := rfl
@[simp] theorem raiseErr_cstValid (k : ErrKind) : (raiseErr k s).cstValid = s.cstValid := rfl
@[simp] theorem raiseErr_mot (k : ErrKind) : (raiseErr k s).mot = s.mot := rfl
@[simp] theorem raiseErr_evt (k : ErrKind) : (raiseErr k s).evt = s.evt := rfl
@[simp] theorem raiseErr_pollValid (k : ErrKind) : (raiseErr k s).pollValid = s.pollValid := rfl
@[simp] theorem raiseErr_timer (k : ErrKind) : (raiseErr k s).timer = s.timer := rfl
@[simp] theorem raiseErr_params (k : ErrKind) : (raiseErr k s).params = s.params := rfl
@[simp] theorem raiseErr_held (k : ErrKind) : (raiseErr k s).held = s.held := rfl
@[simp] theorem raiseErr_inbox (k : ErrKind) : (raiseErr k s).inbox = s.inbox := rfl
@[simp] theorem raiseErr_requests (k : ErrKind) : (raiseErr k s).requests = s.requests := rfl

@[simp] theorem accept_seq (o : Op) : (accept o s).seq = s.seq := rfl
@[simp] theorem accept_sub (o : Op) : (accept o s).sub = s.sub := rfl
@[simp] theorem accept_op (o : Op) : (accept o s).op = o := rfl
@[simp] theorem accept_busy (o : Op) : (accept o s).busy = true := rfl
@[simp] theorem accept_tries (o : Op) : (accept o s).tries = s.tries := rfl
@[simp] theorem accept_pass (o : Op) : (accept o s).pass = s.pass := rfl
@[simp] theorem accept_idx (o : Op) : (accept o s).idx = s.idx := rfl
@[simp] theorem accept_matched (o : Op) : (accept o s).matched = s.matched := rfl
@[simp] theorem accept_skip (o : Op) : (accept o s).skip = s.skip := rfl
@[simp] theorem accept_lastErr (o : Op) : (accept o s).lastErr = .timeout := rfl
@[simp] theorem accept_ck (o : Op) : (accept o s).ck = s.ck := rfl
@[simp] theorem accept_rxb (o : Op) : (accept o s).rxb = s.rxb := rfl
@[simp] theorem accept_txb (o : Op) : (accept o s).txb = s.txb := rfl
@[simp] theorem accept_cmdb (o : Op) : (accept o s).cmdb = s.cmdb := rfl
@[simp] theorem accept_rtoMult (o : Op) : (accept o s).rtoMult = s.rtoMult := rfl
@[simp] theorem accept_rtoConst (o : Op) : (accept o s).rtoConst = s.rtoConst := rfl
@[simp] theorem accept_wtoMult (o : Op) : (accept o s).wtoMult = s.wtoMult := rfl
@[simp] theorem accept_hsState (o : Op) : (accept o s).hsState = s.hsState := rfl
@[simp] theorem accept_result (o : Op) : (accept o s).result = ⟨false, false, .none⟩ := rfl
@[simp] theorem accept_cs (o : Op) : (accept o s).cs = s.cs := rfl
@[simp] theorem accept_cst (o : Op) : (accept o s).cst = s.cst := rfl
@[simp] theorem accept_cstValid (o : Op) : (accept o s).cstValid = (s.cstValid && o != .fetch) := rfl
@[simp] theorem accept_mot (o : Op) : (accept o s).mot = s.mot := rfl
@[simp] theorem accept_evt (o : Op) : (accept o s).evt = s.evt := rfl
@[simp] theorem accept_pollValid (o : Op) : (accept o s).pollValid = (s.pollValid && o != .poll) := rfl
@[simp] theorem accept_timer (o : Op) : (accept o s).timer = s.timer := rfl
@[simp] theorem accept_params (o : Op) : (accept o s).params = s.params := rfl
@[simp] theorem accept_held (o : Op) : (accept o s).held = s.held := rfl
@[simp] theorem accept_inbox (o : Op) : (accept o s).inbox = s.inbox := rfl
@[simp] theorem accept_requests (o : Op) : (accept o s).requests = s.requests := rfl

@[simp] theorem returnOk_seq : (returnOk s).seq = .idle := rfl
@[simp] theorem returnOk_sub : (returnOk s).sub = .none := rfl
@[simp] theorem returnOk_op : (returnOk s).op = s.op := rfl
@[simp] theorem returnOk_busy : (returnOk s).busy = false := rfl
@[simp] theorem returnOk_tries : (returnOk s).tries = s.tries := rfl
@[simp] theorem returnOk_pass : (returnOk s).pass = s.pass := rfl
@[simp] theorem returnOk_idx : (returnOk s).idx = s.idx := rfl
@[simp] theorem returnOk_matched : (returnOk s).matched = s.matched := rfl
@[simp] theorem returnOk_skip : (returnOk s).skip = s.skip := rfl
@[simp] theorem returnOk_lastErr : (returnOk s).lastErr = s.lastErr := rfl
@[simp] theorem returnOk_ck : (returnOk s).ck = s.ck := rfl
@[simp] theorem returnOk_rxb : (returnOk s).rxb = s.rxb := rfl
@[simp] theorem returnOk_txb : (returnOk s).txb = s.txb := rfl
@[simp] theorem returnOk_cmdb : (returnOk s).cmdb = s.cmdb := rfl
@[simp] theorem returnOk_rtoMult : (returnOk s).rtoMult = s.rtoMult := rfl
@[simp] theorem returnOk_rtoConst : (returnOk s).rtoConst = s.rtoConst := rfl
@[simp] theorem returnOk_wtoMult : (returnOk s).wtoMult = s.wtoMult := rfl
@[simp] theorem returnOk_hsState : (returnOk s).hsState = s.hsState := rfl
@[simp] theorem returnOk_result : (returnOk s).result = ⟨true, true, .none⟩ := rfl
@[simp] theorem returnOk_cs : (returnOk s).cs = s.cs := rfl
@[simp] theorem returnOk_cst : (returnOk s).cst = s.cst := rfl
@[simp] theorem returnOk_cstValid : (returnOk s).cstValid = s.cstValid := rfl
@[simp] theorem returnOk_mot : (returnOk s).mot = s.mot := rfl
@[simp] theorem returnOk_evt : (returnOk s).evt = s.evt := rfl
@[simp] theorem returnOk_pollValid : (returnOk s).pollValid = s.pollValid := rfl
@[simp] theorem returnOk_timer : (returnOk s).timer = s.timer := rfl
@[simp] theorem returnOk_params : (returnOk s).params = s.params := rfl
@[simp] theorem returnOk_held : (returnOk s).held = s.held := rfl
@[simp] theorem returnOk_inbox : (returnOk s).inbox = s.inbox := rfl
@[simp] theorem returnOk_requests : (returnOk s).requests = s.requests := rfl

@[simp] theorem returnErr_seq (k : ErrKind) : (returnErr k s).seq = .idle := rfl
@[simp] theorem returnErr_sub (k : ErrKind) : (returnErr k s).sub = .none := rfl
@[simp] theorem returnErr_op (k : ErrKind) : (returnErr k s).op = s.op := rfl
@[simp] theorem returnErr_busy (k : ErrKind) : (returnErr k s).busy = false := rfl
@[simp] theorem returnErr_tries (k : ErrKind) : (returnErr k s).tries = s.tries := rfl
@[simp] theorem returnErr_pass (k : ErrKind) : (returnErr k s).pass = s.pass := rfl
@[simp] theorem returnErr_idx (k : ErrKind) : (returnErr k s).idx = s.idx := rfl
@[simp] theorem returnErr_matched (k : ErrKind) : (returnErr k s).matched = s.matched := rfl
@[simp] theorem returnErr_skip (k : ErrKind) : (returnErr k s).skip = s.skip := rfl
@[simp] theorem returnErr_lastErr (k : ErrKind) : (returnErr k s).lastErr = s.lastErr := rfl
@[simp] theorem returnErr_ck (k : ErrKind) : (returnErr k s).ck = s.ck := rfl
@[simp] theorem returnErr_rxb (k : ErrKind) : (returnErr k s).rxb = s.rxb := rfl
@[simp] theorem returnErr_txb (k : ErrKind) : (returnErr k s).txb = s.txb := rfl
@[simp] theorem returnErr_cmdb (k : ErrKind) : (returnErr k s).cmdb = s.cmdb := rfl
@[simp] theorem returnErr_rtoMult (k : ErrKind) : (returnErr k s).rtoMult = s.rtoMult := rfl
@[simp] theorem returnErr_rtoConst (k : ErrKind) : (returnErr k s).rtoConst = s.rtoConst := rfl
@[simp] theorem returnErr_wtoMult (k : ErrKind) : (returnErr k s).wtoMult = s.wtoMult := rfl
@[simp] theorem returnErr_hsState (k : ErrKind) : (returnErr k s).hsState = s.hsState := rfl
@[simp] theorem returnErr_result (k : ErrKind) : (returnErr k s).result = ⟨true, false, k⟩ := rfl
@[simp] theorem returnErr_cs (k : ErrKind) : (returnErr k s).cs = s.cs := rfl
@[simp] theorem returnErr_cst (k : ErrKind) : (returnErr k s).cst = s.cst := rfl
@[simp] theorem returnErr_cstValid (k : ErrKind) : (returnErr k s).cstValid = s.cstValid := rfl
@[simp] theorem returnErr_mot (k : ErrKind) : (returnErr k s).mot = s.mot := rfl
@[simp] theorem returnErr_evt (k : ErrKind) : (returnErr k s).evt = s.evt := rfl
@[simp] theorem returnErr_pollValid (k : ErrKind) : (returnErr k s).pollValid = s.pollValid := rfl
@[simp] theorem returnErr_timer (k : ErrKind) : (returnErr k s).timer = s.timer := rfl
@[simp] theorem returnErr_params (k : ErrKind) : (returnErr k s).params = s.params := rfl
@[simp] theorem returnErr_held (k : ErrKind) : (returnErr k s).held = s.held := rfl
@[simp] theorem returnErr_inbox (k : ErrKind) : (returnErr k s).inbox = s.inbox := rfl
@[simp] theorem returnErr_requests (k : ErrKind) : (returnErr k s).requests = s.requests := rfl

@[simp] theorem clientWrite_seq (w : CsWrite) : (clientWrite w s).seq = s.seq := rfl
@[simp] theorem clientWrite_sub (w : CsWrite) : (clientWrite w s).sub = s.sub := rfl
@[simp] theorem clientWrite_op (w : CsWrite) : (clientWrite w s).op = s.op := rfl
@[simp] theorem clientWrite_busy (w : CsWrite) : (clientWrite w s).busy = s.busy := rfl
@[simp] theorem clientWrite_tries (w : CsWrite) : (clientWrite w s).tries = s.tries := rfl
@[simp] theorem clientWrite_pass (w : CsWrite) : (clientWrite w s).pass = s.pass := rfl
@[simp] theorem clientWrite_idx (w : CsWrite) : (clientWrite w s).idx = s.idx := rfl
@[simp] theorem clientWrite_matched (w : CsWrite) : (clientWrite w s).matched = s.matched := rfl
@[simp] theorem clientWrite_skip (w : CsWrite) : (clientWrite w s).skip = s.skip := rfl
@[simp] theorem clientWrite_lastErr (w : CsWrite) : (clientWrite w s).lastErr = s.lastErr := rfl
@[simp] theorem clientWrite_ck (w : CsWrite) : (clientWrite w s).ck = s.ck := rfl
@[simp] theorem clientWrite_rxb (w : CsWrite) : (clientWrite w s).rxb = s.rxb := rfl
@[simp] theorem clientWrite_txb (w : CsWrite) : (clientWrite w s).txb = s.txb := rfl
@[simp] theorem clientWrite_cmdb (w : CsWrite) : (clientWrite w s).cmdb = s.cmdb := rfl
@[simp] theorem clientWrite_rtoMult (w : CsWrite) : (clientWrite w s).rtoMult = s.rtoMult := rfl
@[simp] theorem clientWrite_rtoConst (w : CsWrite) : (clientWrite w s).rtoConst = s.rtoConst := rfl
@[simp] theorem clientWrite_wtoMult (w : CsWrite) : (clientWrite w s).wtoMult = s.wtoMult := rfl
@[simp] theorem clientWrite_hsState (w : CsWrite) : (clientWrite w s).hsState = s.hsState := rfl
@[simp] theorem clientWrite_result (w : CsWrite) : (clientWrite w s).result = s.result := rfl
@[simp] theorem clientWrite_cs (w : CsWrite) : (clientWrite w s).cs = writeField w s.cs := rfl
@[simp] theorem clientWrite_cst (w : CsWrite) : (clientWrite w s).cst = s.cst := rfl
@[simp] theorem clientWrite_cstValid (w : CsWrite) : (clientWrite w s).cstValid = s.cstValid := rfl
@[simp] theorem clientWrite_mot (w : CsWrite) : (clientWrite w s).mot = s.mot := rfl
@[simp] theorem clientWrite_evt (w : CsWrite) : (clientWrite w s).evt = s.evt := rfl
@[simp] theorem clientWrite_pollValid (w : CsWrite) : (clientWrite w s).pollValid = s.pollValid := rfl
@[simp] theorem clientWrite_timer (w : CsWrite) : (clientWrite w s).timer = s.timer := rfl
@[simp] theorem clientWrite_params (w : CsWrite) : (clientWrite w s).params = s.params := rfl
@[simp] theorem clientWrite_held (w : CsWrite) : (clientWrite w s).held = s.held := rfl
@[simp] theorem clientWrite_inbox (w : CsWrite) : (clientWrite w s).inbox = s.inbox := rfl
@[simp] theorem clientWrite_requests (w : CsWrite) : (clientWrite w s).requests = s.requests := rfl

end Sys2Proof.Machine
end

