-- ==== Sys2Proof/Laws/Delivery.lean ====
section
/-! SUPPORT. Waiting and delivery, said once: the five things one answered read of a wait can do, that the engine's reaction to an
answer does not look at its surroundings, and that bytes arriving together do what they do arriving in pieces. -/

namespace Sys2Proof.Machine

/-- A state with other surroundings: what the Transport holds and what the outside does next. -/
def State.withEnv (h : List Byte) (i : List Input) (s : State) : State := { s with held := h, inbox := i }

/-- A bounded attempt loop does not look at the surroundings if its two ends do not (R141). -/
theorem attemptLoop_env {attempt exhausted : State → State} (s : State) (h : List Byte) (i : List Input)
    (ha : ∀ t : State, attempt (t.withEnv h i) = (attempt t).withEnv h i)
    (he : ∀ t : State, exhausted (t.withEnv h i) = (exhausted t).withEnv h i) :
    attemptLoop attempt exhausted (s.withEnv h i) = (attemptLoop attempt exhausted s).withEnv h i := by
  by_cases ht : s.tries.toNat < attempts
  · exact (if_pos ht).trans ((ha { s with tries := s.tries + 1 }).trans (congrArg (State.withEnv h i) (if_pos ht).symm))
  · exact (if_neg ht).trans ((he s).trans (congrArg (State.withEnv h i) (if_neg ht).symm))

/-- A bounded attempt loop with an attempt left makes it, counted (R141). -/
theorem attemptLoop_next (attempt exhausted : State → State) (s : State) (h : s.tries.toNat < 3) :
    attemptLoop attempt exhausted s = attempt { s with tries := s.tries + 1 } :=
  if_pos h

/-- A bounded attempt loop with no attempt left goes on after it (R141). -/
theorem attemptLoop_spent (attempt exhausted : State → State) (s : State) (h : ¬s.tries.toNat < 3) :
    attemptLoop attempt exhausted s = exhausted s :=
  if_neg h

theorem hsResetLoop_env (s : State) (h : List Byte) (i : List Input) :
    hsResetLoop (s.withEnv h i) = (hsResetLoop s).withEnv h i := by
  unfold hsResetLoop
  exact attemptLoop_env s h i (fun _ => rfl) fun _ => rfl

theorem feLoop_env (s : State) (h : List Byte) (i : List Input) : feLoop (s.withEnv h i) = (feLoop s).withEnv h i := by
  unfold feLoop
  exact attemptLoop_env s h i (fun _ => rfl) fun _ => rfl

theorem suCueLoop_env (s : State) (h : List Byte) (i : List Input) :
    suCueLoop (s.withEnv h i) = (suCueLoop s).withEnv h i := by
  unfold suCueLoop
  exact attemptLoop_env s h i (fun _ => rfl) fun _ => rfl

theorem suWriteLoop_env (s : State) (h : List Byte) (i : List Input) :
    suWriteLoop (s.withEnv h i) = (suWriteLoop s).withEnv h i := by
  unfold suWriteLoop
  exact attemptLoop_env s h i (fun _ => rfl) fun _ => rfl

/-- What follows a wait does not look at the surroundings. -/
theorem afterWait_env (v : Verdict) (s : State) (h : List Byte) (i : List Input) :
    afterWait v (s.withEnv h i) = (afterWait v s).withEnv h i := by
  have hq : (s.withEnv h i).seq = s.seq := rfl
  unfold afterWait
  rw [hq]
  cases s.seq <;> cases v <;> first
    | rfl
    | exact hsResetLoop_env { s with tries := 0 } h i
    | exact hsResetLoop_env s h i
    | exact feLoop_env { s with tries := 0 } h i
    | exact feLoop_env (raiseErr .timeout s) h i
    | exact suCueLoop_env (raiseErr _ s) h i
    | exact suWriteLoop_env (raiseErr .timeout s) h i

/-- A wait whose last awaited byte arrives returns `ok` (R136). -/
theorem waitAnswer_last (s : State) (b : Byte) (h : (awaited s.seq)[s.matched.toNat]? = some b)
    (hl : (s.matched + 1).toNat = (awaited s.seq).length) :
    waitAnswer (some b) s = (.done .ok, { s with matched := s.matched + 1 }) :=
  (if_pos h).trans (if_pos hl)

/-- A wait whose next awaited byte arrives, not the last, reads on (R136). -/
theorem waitAnswer_next (s : State) (b : Byte) (h : (awaited s.seq)[s.matched.toNat]? = some b)
    (hl : (s.matched + 1).toNat ≠ (awaited s.seq).length) :
    waitAnswer (some b) s = (.more, issueRead s.seq { s with matched := s.matched + 1 }) :=
  (if_pos h).trans (if_neg hl)

/-- A wait at whose end the skip budget is spent while a longer sequence had begun to match (R136). -/
theorem waitAnswer_violation (s : State) (b : Byte) (h : (awaited s.seq)[s.matched.toNat]? ≠ some b)
    (hs : s.skip = s.params.waitSkipMax) (hm : 1 < (awaited s.seq).length ∧ 1 ≤ s.matched.toNat) :
    waitAnswer (some b) s = (.done (.err .protocolViolation), s) :=
  (if_neg h).trans ((if_pos hs).trans (if_pos hm))

/-- A wait at whose end the skip budget is spent otherwise (R136). -/
theorem waitAnswer_timeout (s : State) (b : Byte) (h : (awaited s.seq)[s.matched.toNat]? ≠ some b)
    (hs : s.skip = s.params.waitSkipMax) (hm : ¬(1 < (awaited s.seq).length ∧ 1 ≤ s.matched.toNat)) :
    waitAnswer (some b) s = (.done (.err .timeout), s) :=
  (if_neg h).trans ((if_pos hs).trans (if_neg hm))

/-- A wait that skips a byte and starts to match again (R136). -/
theorem waitAnswer_skip (s : State) (b : Byte) (h : (awaited s.seq)[s.matched.toNat]? ≠ some b)
    (hs : s.skip ≠ s.params.waitSkipMax) :
    waitAnswer (some b) s =
      (.more,
        issueRead s.seq
          { s with skip := s.skip + 1, matched := if (awaited s.seq).head? = some b then 1 else 0 }) :=
  (if_neg h).trans (if_neg hs)

/-- One answered read of a wait does not look at the surroundings. -/
theorem waitAnswer_env (r : Option Byte) (s : State) (h : List Byte) (i : List Input) :
    waitAnswer r (s.withEnv h i) = ((waitAnswer r s).1, (waitAnswer r s).2.withEnv h i) := by
  cases r with
  | none => rfl
  | some b =>
    by_cases h1 : (awaited s.seq)[s.matched.toNat]? = some b
    · by_cases h2 : (s.matched + 1).toNat = (awaited s.seq).length
      · rw [waitAnswer_last s b h1 h2]
        exact waitAnswer_last (s.withEnv h i) b h1 h2
      · rw [waitAnswer_next s b h1 h2]
        exact waitAnswer_next (s.withEnv h i) b h1 h2
    · by_cases h2 : s.skip = s.params.waitSkipMax
      · by_cases h3 : 1 < (awaited s.seq).length ∧ 1 ≤ s.matched.toNat
        · rw [waitAnswer_violation s b h1 h2 h3]
          exact waitAnswer_violation (s.withEnv h i) b h1 h2 h3
        · rw [waitAnswer_timeout s b h1 h2 h3]
          exact waitAnswer_timeout (s.withEnv h i) b h1 h2 h3
      · rw [waitAnswer_skip s b h1 h2]
        exact waitAnswer_skip (s.withEnv h i) b h1 h2

/-- A frame of FETCH that passes its checksum test is acknowledged (R170). -/
theorem feAfterTrail_valid (s : State) (bs : List Byte) (h : ckCheck s.ck (bs.headD 0) = true) :
    feAfterTrail (some bs) s = issueWrite .feAckTx s :=
  if_pos h

/-- A frame of FETCH that fails its checksum test uses up its attempt (R170). -/
theorem feAfterTrail_invalid (s : State) (bs : List Byte) (h : ¬ckCheck s.ck (bs.headD 0) = true) :
    feAfterTrail (some bs) s = feLoop (raiseErr .checksumMismatch s) :=
  if_neg h

/-- A poll frame that passes its fold test is acknowledged (R200). -/
theorem poAfterPayload_valid (s : State) (bs : List Byte) (h : fold bs = 0x7F) :
    poAfterPayload (some bs) s = issueWrite .poAckTx { s with rxb := storePoll bs s.rxb, ck := fold bs } :=
  if_pos h

/-- A poll frame that fails its fold test ends POLL (R200). -/
theorem poAfterPayload_invalid (s : State) (bs : List Byte) (h : fold bs ≠ 0x7F) :
    poAfterPayload (some bs) s = returnErr .checksumMismatch { s with rxb := storePoll bs s.rxb, ck := fold bs } :=
  if_neg h

theorem State.withEnv_self (s : State) : s.withEnv s.held s.inbox = s := rfl

/-- What the answer to a read does, does not depend on what the Transport holds besides the answer, nor on what comes next, and
changes neither (R49, R55). -/
theorem answerRead_env (r : Option (List Byte)) (s : State) (h : List Byte) (i : List Input) :
    answerRead r (s.withEnv h i) = (answerRead r s).withEnv h i := by
  have hw : goOn afterWait (waitAnswer (r.map fun bs => bs.headD 0) (s.withEnv h i)) =
      (goOn afterWait (waitAnswer (r.map fun bs => bs.headD 0) s)).withEnv h i := by
    rw [waitAnswer_env]
    unfold goOn
    cases (waitAnswer (r.map fun bs => bs.headD 0) s).1 with
    | more => rfl
    | done v => exact afterWait_env v _ h i
  have hq : (s.withEnv h i).seq = s.seq := rfl
  unfold answerRead
  rw [hw, hq]
  have ht : ∀ bs, feAfterTrail (some bs) (s.withEnv h i) = (feAfterTrail (some bs) s).withEnv h i := by
    intro bs
    by_cases hc : ckCheck s.ck (bs.headD 0) = true
    · rw [feAfterTrail_valid s bs hc]
      exact feAfterTrail_valid (s.withEnv h i) bs hc
    · rw [feAfterTrail_invalid s bs hc]
      exact (feAfterTrail_invalid (s.withEnv h i) bs hc).trans (feLoop_env (raiseErr .checksumMismatch s) h i)
  have hp : ∀ bs, poAfterPayload (some bs) (s.withEnv h i) = (poAfterPayload (some bs) s).withEnv h i := by
    intro bs
    by_cases hc : fold bs = 0x7F
    · rw [poAfterPayload_valid s bs hc]
      exact poAfterPayload_valid (s.withEnv h i) bs hc
    · rw [poAfterPayload_invalid s bs hc]
      exact poAfterPayload_invalid (s.withEnv h i) bs hc
  cases s.seq <;> cases r <;> first
    | rfl
    | exact feLoop_env (raiseErr .shortTransfer s) h i
    | exact ht _
    | exact hp _

theorem answerRead_held (r : Option (List Byte)) (s : State) : (answerRead r s).held = s.held := by
  have h := answerRead_env r s s.held s.inbox
  rw [State.withEnv_self] at h
  have := congrArg State.held h
  exact this

theorem answerRead_inbox (r : Option (List Byte)) (s : State) : (answerRead r s).inbox = s.inbox := by
  have h := answerRead_env r s s.held s.inbox
  rw [State.withEnv_self] at h
  have := congrArg State.inbox h
  exact this


/-- A delivery consumes exactly the bytes the outstanding read asks for (R43). -/
theorem deliver_held (s : State) : (deliver s).held = s.held.drop (readLen s.seq) := by
  unfold deliver
  exact congrArg State.held (answerRead_env (some (s.held.take (readLen s.seq))) s (s.held.drop (readLen s.seq)) s.inbox)

/-- Once the fuel covers the held bytes, more of it changes nothing: each delivery consumes at least one. -/
theorem deliverAll_fuel : ∀ (n m : Nat) (s : State), s.held.length ≤ n → s.held.length ≤ m →
    deliverAll n s = deliverAll m s := by
  intro n
  induction n with
  | zero =>
    intro m s h0 _
    cases m with
    | zero => rfl
    | succ m =>
      have : readReady s = false := by
        have := readLen_pos s.seq
        simp only [readReady, Bool.and_eq_false_iff, decide_eq_false_iff_not]
        right; omega
      simp [deliverAll, this]
  | succ n ih =>
    intro m s hn hm
    cases m with
    | zero =>
      have : readReady s = false := by
        have := readLen_pos s.seq
        simp only [readReady, Bool.and_eq_false_iff, decide_eq_false_iff_not]
        right; omega
      simp [deliverAll, this]
    | succ m =>
      simp only [deliverAll]
      split
      · have := readLen_pos s.seq
        have hl : (deliver s).held.length = s.held.length - readLen s.seq := by rw [deliver_held, List.length_drop]
        exact ih m _ (by omega) (by omega)
      · rfl

/-- Bytes that arrive together do what they do when they arrive in pieces: the first piece, as long as the outstanding read asks
for, answers it, and the rest arrives after it (R55). -/
theorem arrive_append (s : State) (bs rest : List Byte) (hs : s.sub = .rd) (hh : s.held = [])
    (hl : bs.length = readLen s.seq) : arrive (bs ++ rest) s = arrive rest (answerRead (some bs) s) := by
  have hp := readLen_pos s.seq
  have he : (answerRead (some bs) s).held = [] := (answerRead_held _ s).trans hh
  have hd : deliver { s with held := s.held ++ (bs ++ rest) } =
      { answerRead (some bs) s with held := (answerRead (some bs) s).held ++ rest } := by
    unfold deliver
    simp only [hh, List.nil_append, he]
    rw [List.take_left' hl, List.drop_left' hl]
    have h2 := answerRead_env (some bs) s rest s.inbox
    refine h2.trans ?_
    unfold State.withEnv
    rw [answerRead_inbox]
  unfold arrive
  have hf : s.held.length + (bs ++ rest).length = (s.held.length + (bs ++ rest).length - 1) + 1 := by
    simp; omega
  rw [hf]
  have hr : readReady { s with held := s.held ++ (bs ++ rest) } = true := by
    simp [readReady, hs, hh, hl]
  rw [show deliverAll (s.held.length + (bs ++ rest).length - 1 + 1) { s with held := s.held ++ (bs ++ rest) } =
    deliverAll (s.held.length + (bs ++ rest).length - 1) (deliver { s with held := s.held ++ (bs ++ rest) }) by
      simp only [deliverAll, hr, if_true]]
  rw [hd]
  apply deliverAll_fuel
  · simp [he, hh]; omega
  · simp [he]

/-- Nothing arriving where nothing is held changes nothing. -/
theorem arrive_nil (s : State) (hh : s.held = []) : arrive [] s = s := by
  obtain ⟨⟩ := s
  simp only at hh
  subst hh
  rfl
end Sys2Proof.Machine
end

