-- ==== Sys2Proof/Laws/PerInstr.lean ====
section
/-! SUPPORT. The per-instruction family `Encoding`: the bytes of every well-formed instruction agree with the match and mask
values of its own row of spec/opcode_table.json (spec/30_encoding.md R99). -/

namespace Sys2Proof.Laws.Encoding

open Sys2Proof

/-- One byte of a row: its match value and its mask (R99). -/
abbrev RowByte := Byte × Byte

/-- Variable bytes of a row: mask 00. -/
def free (n : Nat) : List RowByte := List.replicate n (0x00, 0x00)

/-- The match and mask bytes of an instruction's row, first on the wire first, as the table has them. -/
def row : Instr → List RowByte
  | .handshake => [(0x01, 0x07)]
  | .fetch => [(0x02, 0x07)]
  | .setup => [(0x03, 0x07)]
  | .poll => [(0x04, 0x07)]
  | .teardown => [(0x05, 0x07)]
  | .opReserved0 => [(0x00, 0x07)]
  | .opReserved67 _ => [(0x06, 0x06)]
  | .sync => [(0xA5, 0xFF)]
  | .ack => [(0x06, 0xFF)]
  | .idleSync => [(0x58, 0xFF)]
  | .cmd _ _ => [(0xA5, 0xFF), (0x00, 0x00), (0x00, 0x80)]
  | .cmdReset => [(0xA5, 0xFF), (0x16, 0xFF), (0x4C, 0xFF)]
  | .cmdPrefetch => [(0xA5, 0xFF), (0x36, 0xFF), (0x6C, 0xFF)]
  | .cmdFetch => [(0xA5, 0xFF), (0x23, 0xFF), (0x79, 0xFF)]
  | .cue => [(0xA5, 0xFF), (0x23, 0xFF), (0x5C, 0xFF)]
  | .cstFrame _ _ _ => (0xA5, 0xFF) :: free 23
  | .setupWrite _ _ => (0xA5, 0xFF) :: (0x19, 0xFF) :: (free 31 ++ [(0x00, 0x80)])
  | .pollFrame _ _ _ _ _ _ _ _ => (0xA5, 0xFF) :: free 8
  | .idNone => [(0x00, 0xFF)]
  | .idInvalid01 => [(0x01, 0xFF)]
  | .idCourseSelector => [(0x02, 0xFF)]
  | .idNav1On => [(0x18, 0xFF)]
  | .idThrottle => [(0x38, 0xFF)]
  | .idTrim => [(0x3E, 0xFF)]
  | .idInvalid4D => [(0x4D, 0xFF)]
  | .idInvalid4E4F _ => [(0x4E, 0xFE)]
  | .idInvalid505F _ => [(0x50, 0xF0)]
  | .idInvalid607F _ => [(0x60, 0xE0)]
  | .idInvalid80FF _ => [(0x80, 0x80)]
  | .idOther _ => [(0x00, 0x00)]

/-- The bytes fit the row, byte by byte and in number. -/
def fits (bs : List Byte) (r : List RowByte) : Prop := List.Forall₂ (fun b m => b &&& m.2 = m.1) bs r

/-- The bytes of a well-formed instruction fit its row. -/
def Statement (i : Instr) : Prop := i.wf = true → fits (encode i) (row i)

/-- Any bytes fit as many variable bytes. -/
theorem fits_free : ∀ l : List Byte, fits l (free l.length)
  | [] => .nil
  | _ :: l => .cons (BitVec.and_zero) (fits_free l)

/-- Fitting is byte by byte, so it splits over a concatenation. -/
theorem fits_append {a b : List Byte} {r q : List RowByte} (h : fits a r) (g : fits b q) : fits (a ++ b) (r ++ q) :=
  List.rel_append h g

theorem fits_one {b : Byte} {m : RowByte} (h : b &&& m.2 = m.1) : fits [b] [m] := .cons h .nil

theorem handshake : Statement .handshake := fun _ => fits_one (by decide)
theorem fetch : Statement .fetch := fun _ => fits_one (by decide)
theorem setup : Statement .setup := fun _ => fits_one (by decide)
theorem poll : Statement .poll := fun _ => fits_one (by decide)
theorem teardown : Statement .teardown := fun _ => fits_one (by decide)
theorem opReserved0 : Statement .opReserved0 := fun _ => fits_one (by decide)
theorem opReserved67 (low : BitVec 1) : Statement (.opReserved67 low) :=
  fun _ => fits_one (by revert low; decide)
theorem sync : Statement .sync := fun _ => fits_one (by decide)
theorem ack : Statement .ack := fun _ => fits_one (by decide)
theorem idleSync : Statement .idleSync := fun _ => fits_one (by decide)

theorem cmd (c k : Byte) : Statement (.cmd c k) := by
  intro h
  simp only [Instr.wf, Bool.and_eq_true, beq_iff_eq] at h
  obtain ⟨rfl, -⟩ := h
  refine .cons (by decide) (.cons BitVec.and_zero (.cons ?_ .nil))
  show Machine.complementOf c &&& 0x80 = 0x00
  revert c
  decide

theorem cmdReset : Statement .cmdReset := fun _ => .cons (by decide) (.cons (by decide) (fits_one (by decide)))
theorem cmdPrefetch : Statement .cmdPrefetch := fun _ => .cons (by decide) (.cons (by decide) (fits_one (by decide)))
theorem cmdFetch : Statement .cmdFetch := fun _ => .cons (by decide) (.cons (by decide) (fits_one (by decide)))
theorem cue : Statement .cue := fun _ => .cons (by decide) (.cons (by decide) (fits_one (by decide)))

theorem cstFrame (seed : Byte) (record : Vector Byte 21) (trailing : Byte) :
    Statement (.cstFrame seed record trailing) := by
  intro _
  have h := fits_free (seed :: (record.toList ++ [trailing]))
  rw [show (seed :: (record.toList ++ [trailing])).length = 23 by simp] at h
  exact .cons (by decide) h

theorem setupWrite (content : Vector Byte 31) (ck : Byte) : Statement (.setupWrite content ck) := by
  intro hw
  simp only [Instr.wf, beq_iff_eq] at hw
  have h := fits_free content.toList
  rw [Vector.length_toList] at h
  refine .cons (by decide) (.cons (by decide) (fits_append h (fits_one ?_)))
  show ck &&& 0x80 = 0x00
  rw [hw]
  generalize Machine.fold content.toList = f
  revert f
  decide

theorem pollFrame (flags pitchMag rollMag yawMag rawId v1 v2 check : Byte) :
    Statement (.pollFrame flags pitchMag rollMag yawMag rawId v1 v2 check) :=
  fun _ => .cons (by decide) (fits_free [flags, pitchMag, rollMag, yawMag, rawId, v1, v2, check])

theorem idNone : Statement .idNone := fun _ => fits_one (by decide)
theorem idInvalid01 : Statement .idInvalid01 := fun _ => fits_one (by decide)
theorem idCourseSelector : Statement .idCourseSelector := fun _ => fits_one (by decide)
theorem idNav1On : Statement .idNav1On := fun _ => fits_one (by decide)
theorem idThrottle : Statement .idThrottle := fun _ => fits_one (by decide)
theorem idTrim : Statement .idTrim := fun _ => fits_one (by decide)
theorem idInvalid4D : Statement .idInvalid4D := fun _ => fits_one (by decide)
theorem idInvalid4E4F (low : BitVec 1) : Statement (.idInvalid4E4F low) :=
  fun _ => fits_one (by revert low; decide)
theorem idInvalid505F (low : BitVec 4) : Statement (.idInvalid505F low) :=
  fun _ => fits_one (by revert low; decide)
theorem idInvalid607F (low : BitVec 5) : Statement (.idInvalid607F low) :=
  fun _ => fits_one (by revert low; decide)
theorem idInvalid80FF (low : BitVec 7) : Statement (.idInvalid80FF low) :=
  fun _ => fits_one (by revert low; decide)
theorem idOther (id : Byte) : Statement (.idOther id) := fun _ => fits_one BitVec.and_zero

end Sys2Proof.Laws.Encoding
end

