-- ==== Sys2Proof/Laws/Sequencer.lean ====
section
/-! SUPPORT. What the shared operations of the sequencer, the step and a run can do, said once: the continuation of a transmission, the
delivery of bytes, the classification of a poll frame, and `Keeps.step`, the one induction behind every invariant of the
machine. -/

namespace Sys2Proof.Machine

/-- A granted write inside a transmission starts the gap before the next byte (R132). -/
theorem answerWrite_gap (s : State) (hf : sendsFrame s.seq = true) (h : (s.idx + 1).toNat ≠ (outFrame s).length) :
    answerWrite true s = beginDelay s.seq gapMs { s with idx := s.idx + 1 } := by
  simp only [answerWrite, hf, if_true, frameAnswer, if_neg h, goOn]

/-- The granted last write of a transmission hands it back to the operation (R132). -/
theorem answerWrite_last (s : State) (hf : sendsFrame s.seq = true) (h : (s.idx + 1).toNat = (outFrame s).length) :
    answerWrite true s = afterFrame .ok { s with idx := s.idx + 1 } := by
  simp only [answerWrite, hf, if_true, frameAnswer, if_pos h, goOn]

/-- A refused write inside a transmission ends it with ShortTransfer; the remaining bytes are not sent (R132). -/
theorem answerWrite_refused (s : State) (hf : sendsFrame s.seq = true) :
    answerWrite false s = afterFrame (.err .shortTransfer) s := by
  simp [answerWrite, hf, frameAnswer, goOn]

/-- The end of a gap writes the next byte (R132). -/
theorem endDelay_gap (s : State) (hf : sendsFrame s.seq = true) :
    endDelay s = issueWrite s.seq { s with timer := 0 } := by
  unfold endDelay
  split
  · rename_i h
    rw [h] at hf
    exact absurd hf (by decide)
  · rfl

/-- Delivering bytes keeps whatever every single delivery keeps. -/
theorem deliverAll_keeps {P : State → Prop} (hd : ∀ s, readReady s = true → P s → P (deliver s)) :
    ∀ (n : Nat) (s : State), P s → P (deliverAll n s)
  | 0, _, h => h
  | n + 1, s, h => by
    unfold deliverAll
    split
    · rename_i hr
      exact deliverAll_keeps hd n _ (hd s hr h)
    · exact h

/-- Sending the rest of a transmission keeps whatever each accepted write and each gap's end keep. -/
theorem sendBytes_keeps {P : State → Prop} (hw : ∀ s, s.sub = .wr → P s → P (answerWrite true s))
    (hg : ∀ s, s.sub = .dly → P s → P (endDelay s)) :
    ∀ (n : Nat) (s : State), s.sub = .wr → sendsFrame s.seq = true → s.idx.toNat + n = (outFrame s).length → P s →
      P (sendBytes n s)
  | 0, _, _, _, _, h => h
  | 1, s, hs, _, _, h => hw s hs h
  | n + 2, s, hs, hf, hn, h => by
    have hlen : (outFrame s).length ≤ 34 := by
      rw [outFrame_length]
      split <;> omega
    have hidx : (s.idx + 1).toNat = s.idx.toNat + 1 := by
      rw [BitVec.toNat_add]
      simp
      omega
    have hmore := answerWrite_gap s hf (by omega)
    unfold sendBytes
    rw [hmore]
    have hp := hg _ rfl (hmore ▸ hw s hs h)
    rw [endDelay_gap _ (by exact hf)] at hp ⊢
    refine sendBytes_keeps hw hg (n + 1) _ rfl (by exact hf) ?_ hp
    show (s.idx + 1).toNat + (n + 1) = _
    have hl : ∀ u : State, u.seq = s.seq → (outFrame u).length = (outFrame s).length := by
      intro u hu
      rw [outFrame_length, outFrame_length, hu]
    refine Eq.trans ?_ (hl _ rfl).symm
    omega

theorem drop_getD (l : List Byte) (k : Nat) (h : k < l.length) : l.drop k = l.getD k 0 :: l.drop (k + 1) := by
  rw [List.drop_eq_getElem_cons h, List.getD_eq_getElem _ _ h]

/-- The rest of a transmission in closed form: every further byte after its gap, IDX at the end, and the operation goes on as after
a whole transmission (R132, R270). -/
theorem sendBytes_rest : ∀ (n : Nat) (s : State), s.sub = .wr → sendsFrame s.seq = true →
    s.idx.toNat + (n + 1) = (outFrame s).length →
    sendBytes (n + 1) s =
      afterFrame .ok
        { s with
          idx := BitVec.ofNat 6 (outFrame s).length
          timer := if n = 0 then s.timer else 0
          requests := s.requests ++ ((outFrame s).drop (s.idx.toNat + 1)).flatMap fun b => [.delay gapMs, .write b] }
  | 0, s, hs, hf, hn => by
    have hlen : (outFrame s).length ≤ 34 := by rw [outFrame_length]; split <;> omega
    have hidx : s.idx + 1 = BitVec.ofNat 6 (outFrame s).length := by
      apply BitVec.eq_of_toNat_eq
      rw [BitVec.toNat_add, BitVec.toNat_ofNat, ← hn]; simp
    have hd : (outFrame s).drop (s.idx.toNat + 1) = [] := List.drop_eq_nil_of_le (by omega)
    have h1 : (s.idx + 1).toNat = (outFrame s).length := by
      rw [hidx, BitVec.toNat_ofNat]; omega
    refine (answerWrite_last s hf h1).trans ?_
    rw [hidx, hd]
    simp
  | n + 1, s, hs, hf, hn => by
    have hlen : (outFrame s).length ≤ 34 := by rw [outFrame_length]; split <;> omega
    have hidx : (s.idx + 1).toNat = s.idx.toNat + 1 := by
      rw [BitVec.toNat_add]; simp; omega
    have hstep : sendBytes (n + 1 + 1) s = sendBytes (n + 1) (endDelay (answerWrite true s)) := rfl
    rw [hstep, answerWrite_gap s hf (by omega), endDelay_gap _ (by exact hf)]
    have hnext := sendBytes_rest n
      (issueWrite s.seq { beginDelay s.seq gapMs { s with idx := s.idx + 1 } with timer := 0 }) rfl hf
      (by
        have : (outFrame (issueWrite s.seq { beginDelay s.seq gapMs { s with idx := s.idx + 1 } with timer := 0 })) = outFrame s := rfl
        rw [this]
        show (s.idx + 1).toNat + (n+1) = _
        omega)
    refine hnext.trans ?_
    have hof : (outFrame (issueWrite s.seq { beginDelay s.seq gapMs { s with idx := s.idx + 1 } with timer := 0 })) = outFrame s := rfl
    rw [hof]
    have hdrop : (outFrame s).drop (s.idx.toNat + 1) =
        (outFrame s).getD (s.idx + 1).toNat 0 :: (outFrame s).drop ((s.idx + 1).toNat + 1) := by
      rw [hidx]
      exact drop_getD _ _ (by omega)
    have hob : outByte (standAt s.seq .wr { beginDelay s.seq gapMs { s with idx := s.idx + 1 } with timer := 0 }) = (outFrame s).getD (s.idx + 1).toNat 0 := by
      unfold outByte
      exact if_pos hf
    rw [hdrop]
    unfold issueWrite
    rw [hob]
    simp [emit, standAt, beginDelay, hs]

/-- The row of a raw id, run where a poll frame is classified, is the classifier's arm for that id (R208). -/
theorem exec_decodeRawId (s : State) :
    exec (decodeRawId s.rxb[4]) s = .next (pollFinish (decodeEvent s.params s.rxb[4] s.rxb[5] s.rxb[6]) s) := by
  generalize hid : s.rxb[4] = id
  by_cases h0 : id = 0x00
  · subst h0; rfl
  by_cases h1 : id = 0x01
  · subst h1; rfl
  by_cases h2 : id = 0x02
  · subst h2; rfl
  by_cases h18 : id = 0x18
  · subst h18; rfl
  by_cases h38 : id = 0x38
  · subst h38; rfl
  by_cases h3e : id = 0x3E
  · subst h3e; rfl
  by_cases hbig : 0x4C < id.toNat
  · have hclass : idClass s.params id = .invalid := by
      unfold idClass
      rw [if_neg h0, if_neg h2, if_neg h18, if_neg h38, if_neg h3e, if_pos (Or.inr hbig)]
    have hsplit : id = 0x4D ∨ id &&& 0xFE = 0x4E ∨ id &&& 0xF0 = 0x50 ∨ id &&& 0xE0 = 0x60 ∨ id &&& 0x80 = 0x80 := by
      revert hbig
      clear hclass hid h0 h1 h2 h18 h38 h3e
      revert id
      decide
    simp only [decodeRawId, decodeEvent, hclass, h0, h1, h2, h18, h38, h3e, if_false]
    split_ifs <;> first | rfl | (exfalso; simp_all)
  · have hsplit : ¬(id = 0x4D) ∧ ¬(id &&& 0xFE = 0x4E) ∧ ¬(id &&& 0xF0 = 0x50) ∧ ¬(id &&& 0xE0 = 0x60) ∧
        ¬(id &&& 0x80 = 0x80) := by
      revert hbig
      clear hid h0 h1 h2 h18 h38 h3e
      revert id
      decide
    simp only [decodeRawId, h0, h1, h2, h18, h38, h3e, hsplit, if_false]
    rfl

/-- The row of a raw id, run where a poll frame is classified, is what the accepted acknowledge makes the engine do (R200). -/
theorem exec_decodeRawId_grant (s : State) (h : classifies s = true) :
    exec (decodeRawId s.rxb[4]) s = .next (grant s) := by
  simp only [classifies, Bool.and_eq_true, beq_iff_eq] at h
  rw [exec_decodeRawId]
  simp [grant, h.1, h.2, answerWrite, sendsFrame, sendsCommand, afterByte, byteAnswer, poAfterAck]

/-- What a property must survive to hold along every run: each elementary event of the machine. -/
structure Keeps (P : State → Prop) : Prop where
  /-- What the Transport holds and what comes next are not the engine's. -/
  environment : ∀ s held inbox, P s → P { s with held := held, inbox := inbox }
  handshake : ∀ s, s.busy = false → P s → P (hsBegin (accept .handshake s))
  teardown : ∀ s, s.busy = false → P s → P (hsBegin (accept .teardown s))
  fetch : ∀ s, s.busy = false → P s → P (feBegin (accept .fetch s))
  setup : ∀ s, s.busy = false → P s → P (suBegin (accept .setup s))
  poll : ∀ s, s.busy = false → P s → P (poBegin (accept .poll s))
  /-- The outstanding read is answered: `fail`, or as many bytes as it asks for. -/
  read : ∀ s r, s.sub = .rd → (∀ bs, r = some bs → bs.length = readLen s.seq) → P s → P (answerRead r s)
  write : ∀ s ok, s.sub = .wr → P s → P (answerWrite ok s)
  delayEnds : ∀ s, s.sub = .dly → P s → P (endDelay s)
  delayCounts : ∀ s, s.sub = .dly → 1 < s.timer → P s → P { s with timer := s.timer - 1 }
  client : ∀ s w, P s → P (clientWrite w s)
  reset : ∀ s, P s → P (resetInput s)

namespace Keeps

variable {P : State → Prop} (k : Keeps P)
include k

theorem held (s : State) (h : List Byte) (hp : P s) : P { s with held := h } := k.environment s h s.inbox hp

theorem deliver (s : State) (hr : readReady s = true) (hp : P s) : P (deliver s) := by
  simp only [readReady, Bool.and_eq_true, beq_iff_eq, decide_eq_true_eq] at hr
  refine k.read _ _ hr.1 ?_ (k.held s _ hp)
  intro bs hbs
  cases hbs
  simpa using hr.2

theorem arrive (bs : List Byte) (s : State) (hp : P s) : P (arrive bs s) :=
  deliverAll_keeps k.deliver _ _ (k.held s _ hp)

theorem grant (s : State) (hp : P s) : P (grant s) := by
  unfold Machine.grant
  split
  · split
    · rename_i hr
      exact k.deliver s hr hp
    · exact hp
  · rename_i h
    exact k.write s true h hp
  · exact hp
  · exact hp

theorem deny (lost : Nat) (s : State) (hp : P s) : P (deny lost s) := by
  unfold Machine.deny
  split
  · rename_i h
    exact k.read _ _ h (by intro bs hbs; cases hbs) (k.held s _ hp)
  · rename_i h
    exact k.write s false h hp
  · exact hp
  · exact hp

theorem tick (s : State) (hp : P s) : P (tick s) := by
  unfold Machine.tick
  split
  · rename_i h
    split
    · rename_i ht
      exact k.delayCounts s h ht hp
    · exact k.delayEnds s h hp
  · exact hp

theorem passFrame (frame : List Byte) (s : State) (hp : P s) : P (passFrame frame s) := by
  unfold Machine.passFrame
  split
  · rename_i h
    simp only [aboutToSend, Bool.and_eq_true, beq_iff_eq] at h
    obtain ⟨⟨⟨hsub, hf⟩, hidx⟩, hout⟩ := h
    exact sendBytes_keeps (fun t => k.write t true) k.delayEnds _ _ hsub hf (by simp [hidx, hout]) hp
  · exact k.arrive frame s hp

/-- Every instruction of the client's port and of the channel keeps what the elementary events keep. -/
theorem exec (i : Instr) (hi : i.port ≠ .rawId) (s t : State) (hp : P s) (h : exec i s = .next t) : P t := by
  have hstart : ∀ u : State, (s.busy = false → P u) → P (if s.busy then s else u) := by
    intro u hf
    split
    · exact hp
    · rename_i hb
      exact hf (by simpa using hb)
  cases i <;> first | exact absurd rfl hi | skip
  all_goals
    simp only [Machine.exec] at h
    cases h
  case handshake => exact hstart _ fun hb => k.handshake s hb hp
  case teardown => exact hstart _ fun hb => k.teardown s hb hp
  case fetch => exact hstart _ fun hb => k.fetch s hb hp
  case setup => exact hstart _ fun hb => k.setup s hb hp
  case poll => exact hstart _ fun hb => k.poll s hb hp
  case opReserved0 => exact hp
  case opReserved67 => exact hp
  case sync =>
    split
    · rename_i h
      simp only [Bool.and_eq_true, beq_iff_eq] at h
      exact k.write s true h.1.1.1 hp
    · exact k.arrive _ s hp
  case ack =>
    split
    · rename_i h
      simp only [Bool.and_eq_true, beq_iff_eq] at h
      exact k.write s true h.1 hp
    · exact k.arrive _ s hp
  case idleSync => exact k.arrive _ s hp
  case cmd => exact k.passFrame _ s hp
  case cmdReset => exact k.passFrame _ s hp
  case cmdPrefetch => exact k.passFrame _ s hp
  case cmdFetch => exact k.passFrame _ s hp
  case cue => exact k.arrive _ s hp
  case cstFrame => exact k.arrive _ s hp
  case setupWrite => exact k.passFrame _ s hp
  case pollFrame => exact k.arrive _ s hp

end Keeps

/-- The instruction of an operation code stands on the client's port. -/
theorem decodeOp_port (code : BitVec 3) : (decodeOp code).port = .client := by
  revert code
  decide

/-- What decodes on the channel stands on the channel. -/
theorem decodeChannel_port (bs : List Byte) (i : Instr) (h : decodeChannel bs = .ok i) : i.port = .channel := by
  have h3 : ∀ c k, decodeThree c k = .ok i → i.port = .channel := by
    intro c k h
    unfold decodeThree at h
    split_ifs at h <;> cases h <;> rfl
  have hs : ∀ rest, decodeSetupWrite rest = .ok i → i.port = .channel := by
    intro rest h
    unfold decodeSetupWrite at h
    split_ifs at h
    cases h
    rfl
  unfold decodeChannel at h
  split at h
  · cases h
  · unfold decodeByte at h
    split_ifs at h <;> cases h <;> rfl
  · split_ifs at h
    unfold decodeAfterSync at h
    split_ifs at h
    · exact h3 _ _ h
    · cases h; rfl
    · cases h; rfl
    · exact hs _ h

namespace Keeps

/-- The one induction: what every elementary event keeps, every step keeps. -/
theorem step {P : State → Prop} (k : Keeps P) (s t : State) (hp : P s) (h : step s = .next t) : P t := by
  unfold Machine.step at h
  split at h
  · cases h
    exact hp
  · rename_i e rest _
    have hp' : P { s with inbox := rest } := k.environment s s.held rest hp
    generalize { s with inbox := rest } = u at h hp'
    cases e with
    | start code =>
      refine k.exec _ ?_ u t hp' h
      rw [decodeOp_port]
      decide
    | writeCs w => cases h; exact k.client u w hp'
    | frame bs =>
      simp only [handle, runFrame, decode] at h
      split at h
      · rename_i i hi
        split at h
        · refine k.exec i ?_ u t hp' h
          rw [decodeChannel_port bs i hi]
          decide
        · cases h
          exact k.arrive bs u hp'
      · cases h
        exact k.arrive bs u hp'
    | grant =>
      simp only [handle] at h
      split at h
      · rename_i hc
        rw [exec_decodeRawId_grant u hc] at h
        cases h
        exact k.grant u hp'
      · cases h
        exact k.grant u hp'
    | deny lost => cases h; exact k.deny lost u hp'
    | tick => cases h; exact k.tick u hp'
    | reset => cases h; exact k.reset u hp'

end Keeps

/-- A run of no step stays. -/
theorem run_zero (s : State) : Host.Core.run Sys2Proof.core 0 s = .next s := rfl

/-- A run takes one step first. -/
theorem run_succ (n : Nat) (s t : State) (h : step s = .next t) :
    Host.Core.run Sys2Proof.core (n + 1) s = Host.Core.run Sys2Proof.core n t := by
  have hs : Sys2Proof.core.step s = .next t := h
  simp [Host.Core.run, hs]

/-- A run with nothing next stays (R262). -/
theorem run_quiet (t : State) (h : t.inbox = []) : ∀ n, Host.Core.run Sys2Proof.core n t = .next t
  | 0 => run_zero t
  | n + 1 => (run_succ n t t (by simp only [step, h])).trans (run_quiet t h n)

end Sys2Proof.Machine
end

