-- ==== Sys2Proof/Tests/Slice0.lean ====
section
/-! SUPPORT. The model's own tests. Expected values are those of spec/95_test_vectors.md (named V<n>, S<n>) or worked by hand from
the rules named; each evaluates one step or one function. The last part holds, for every obligation with hypotheses, concrete
states and operands that meet them together. -/

namespace Sys2Proof.Tests

open Sys2Proof Sys2Proof.Machine

/-- The parameters of spec/95_test_vectors.md: WAIT_SKIP_MAX 0, HS_PASSES 2, only the five fixed ids, and the example values of
V3.5 for the OPEN defaults. -/
def params : Params where
  hsPasses := 2
  waitSkipMax := 0
  idOther := []
  ctrlRadioTune := 0x02
  defRadioSel := 0
  defAdfStby := ⟨1, 90⟩
  defAdfCur := ⟨2, 0⟩
  defUnk := ⟨0, 0⟩
  defOpaque := #v[0, 0, 0, 0]
  wtoMultInit := 0
  setupLayout := defaultLayout

/-- The machine of these parameters at reset. -/
def idle : State := State.resetWith params

/-- That machine running an operation, at a wait-point. -/
def running (o : Op) (l : Label) (u : Sub) : State := { idle with op := o, busy := true, seq := l, sub := u }

/-- What a test looks at in the next state, `none` where there is none. -/
def got {α : Type} (o : Host.Outcome State Fault Refusal) (f : State → α) : Option α :=
  match o with
  | .next t => some (f t)
  | .fault _ => none
  | .refused _ => none

/-- The record of V8 (REC). -/
def rec8 : Vector Byte 21 :=
  #v[0x01, 0x00, 0x01, 0x01, 0x01, 0x00, 0x00, 0x01, 0x01, 0x00, 0x01, 0x00, 0x01, 0x02, 0x03, 0x01, 0x40, 0x7F, 0x20, 0x31, 0x32]

/-- The content bytes of V3.5. -/
def content35 : Vector Byte 31 :=
  #v[0x00, 0x46, 0x6F, 0x46, 0x6F, 0x32, 0x6D, 0x32, 0x6D, 0x5A, 0x01, 0x00, 0x02, 0x00, 0x00, 0x14, 0x79, 0x34, 0x01, 0x34, 0x01,
    0x34, 0x01, 0x30, 0x17, 0x34, 0x01, 0x00, 0x00, 0x00, 0x00]

/-! ### Well-formedness: one ill-formed term for each check -/

theorem test_wf_cmd_wrong_complement : (Instr.cmd 0x19 0x44).wf = false := by decide
theorem test_wf_cmd_named_command : (Instr.cmd 0x16 0x4C).wf = false := by decide
theorem test_wf_setupWrite_wrong_checksum : (Instr.setupWrite content35 0x6D).wf = false := by decide
theorem test_wf_idOther_above_range : (Instr.idOther 0x4D).wf = false := by decide
theorem test_wf_idOther_named_id : (Instr.idOther 0x38).wf = false := by decide
theorem test_wf_accepts :
    (Instr.cmd 0x19 0x43).wf = true ∧ (Instr.setupWrite content35 0x6C).wf = true ∧ (Instr.idOther 0x4C).wf = true := by
  decide

/-! ### Decoding: a word for every constructor, written out from spec/30_encoding.md -/

theorem test_decode_op :
    decode .client [0b001] = .ok .handshake ∧ decode .client [0b010] = .ok .fetch ∧ decode .client [0b011] = .ok .setup ∧
      decode .client [0b100] = .ok .poll ∧ decode .client [0b101] = .ok .teardown ∧
      decode .client [0b000] = .ok .opReserved0 ∧ decode .client [0b110] = .ok (.opReserved67 0) ∧
      decode .client [0b111] = .ok (.opReserved67 1) := by
  decide

theorem test_decode_op_refuses : decode .client [0b1000] = .error .codeTooWide ∧ decode .client [] = .error .wrongLength := by
  decide

theorem test_decode_byte :
    decode .channel [0b10100101] = .ok .sync ∧ decode .channel [0b00000110] = .ok .ack ∧
      decode .channel [0b01011000] = .ok .idleSync ∧ decode .channel [0b00000111] = .error .notACode := by
  decide

theorem test_decode_cmd3 :
    decode .channel [0xA5, 0x16, 0x4C] = .ok .cmdReset ∧ decode .channel [0xA5, 0x36, 0x6C] = .ok .cmdPrefetch ∧
      decode .channel [0xA5, 0x23, 0x79] = .ok .cmdFetch ∧ decode .channel [0xA5, 0x19, 0x43] = .ok (.cmd 0x19 0x43) ∧
      decode .channel [0xA5, 0x19, 0xC3] = .error .complementBit7 ∧ decode .channel [0x58, 0x19, 0x43] = .error .noSync := by
  decide

theorem test_decode_cue3 : decode .channel [0xA5, 0x23, 0x5C] = .ok .cue := by decide

theorem test_decode_poll9 :
    decode .channel [0xA5, 0x03, 0x0A, 0x14, 0x05, 0x38, 0x4D, 0x00, 0x12] =
      .ok (.pollFrame 0x03 0x0A 0x14 0x05 0x38 0x4D 0x00 0x12) := by
  decide

theorem test_decode_cst24 :
    decode .channel
        [0xA5, 0x23, 0x01, 0x00, 0x01, 0x01, 0x01, 0x00, 0x00, 0x01, 0x01, 0x00, 0x01, 0x00, 0x01, 0x02, 0x03, 0x01, 0x40, 0x7F, 0x20,
          0x31, 0x32, 0x40] =
      .ok (.cstFrame 0x23 rec8 0x40) := by
  decide

theorem test_decode_setup34 :
    decode .channel
        [0xA5, 0x19, 0x00, 0x46, 0x6F, 0x46, 0x6F, 0x32, 0x6D, 0x32, 0x6D, 0x5A, 0x01, 0x00, 0x02, 0x00, 0x00, 0x14, 0x79, 0x34,
          0x01, 0x34, 0x01, 0x34, 0x01, 0x30, 0x17, 0x34, 0x01, 0x00, 0x00, 0x00, 0x00, 0x6C] =
      .ok (.setupWrite content35 0x6C) := by
  decide

theorem test_decode_rawid :
    decode .rawId [0x00] = .ok .idNone ∧ decode .rawId [0x01] = .ok .idInvalid01 ∧
      decode .rawId [0x02] = .ok .idCourseSelector ∧ decode .rawId [0x18] = .ok .idNav1On ∧
      decode .rawId [0x38] = .ok .idThrottle ∧ decode .rawId [0x3E] = .ok .idTrim ∧
      decode .rawId [0x4D] = .ok .idInvalid4D ∧ decode .rawId [0b01001111] = .ok (.idInvalid4E4F 1) ∧
      decode .rawId [0b01010110] = .ok (.idInvalid505F 6) ∧ decode .rawId [0b01110001] = .ok (.idInvalid607F 17) ∧
      decode .rawId [0b11111110] = .ok (.idInvalid80FF 126) ∧ decode .rawId [0x4C] = .ok (.idOther 0x4C) := by
  decide

/-- The table words: first byte in the low bits. -/
theorem test_decodeTableWord :
    decodeTableWord 8 1 = some .handshake ∧ decodeTableWord 8 7 = some (.opReserved67 1) ∧
      decodeTableWord 8 0xA5 = some .sync ∧ decodeTableWord 8 0x58 = some .idleSync ∧
      decodeTableWord 24 0x4C16A5 = some .cmdReset ∧ decodeTableWord 24 0x5C23A5 = some .cue ∧
      decodeTableWord 8 0x38 = some .idThrottle ∧ decodeTableWord 8 0x80 = some (.idInvalid80FF 0) ∧
      decodeTableWord 72 0xA5 = some (.pollFrame 0 0 0 0 0 0 0 0) := by
  decide

/-! ### The codec -/

/-- V1.3 to V1.7. -/
theorem test_fold :
    fold [0x03, 0x0A, 0x14, 0x05, 0x38, 0x4D, 0x00] = 0x6D ∧
      fold [0x03, 0x0A, 0x14, 0x05, 0x38, 0x4D, 0x00, 0x12] = 0x7F ∧ fold (0x23 :: rec8.toList) = 0x3F ∧
      fold [0x80, 0x80] = 0 ∧ fold [0xFF, 0x0F, 0xF0] = 0 := by
  decide

/-- V1.9, V1.13 to V1.18. -/
theorem test_checksum :
    ckGen 0x13 = 0x6C ∧ ckGen 0x80 = 0x7F ∧ ckGen 0xA1 = 0x5E ∧ ckCheck 0x80 0x7F = false ∧ ckCheck 0x80 0xFF = true ∧
      ckCheck 0x3F 0x41 = false ∧ ckCheck 0x3F 0xC0 = false := by
  decide

/-- V2.1 to V2.9. -/
theorem test_cmdFrame :
    cmdFrame 0x16 = [0xA5, 0x16, 0x4C] ∧ cmdFrame 0x36 = [0xA5, 0x36, 0x6C] ∧ cmdFrame 0x23 = [0xA5, 0x23, 0x79] ∧
      cmdFrame 0x00 = [0xA5, 0x00, 0x5A] ∧ cmdFrame 0x7F = [0xA5, 0x7F, 0x25] ∧ cmdFrame 0xFF = [0xA5, 0xFF, 0x25] ∧
      cmdFrame 0xA5 = [0xA5, 0xA5, 0x7F] ∧ cmdFrame 0x5A = [0xA5, 0x5A, 0x00] := by
  decide

/-- V3.1 and V3.2. -/
theorem test_split7 :
    (split7Lo 359, split7Hi 359) = (0x67, 0x02) ∧ (split7Lo 2992, split7Hi 2992) = (0x30, 0x17) ∧
      (split7Lo 16384, split7Hi 16384) = (0x00, 0x80) ∧ (split7Lo 32768, split7Hi 32768) = (0x00, 0x00) ∧
      (split7Lo 65535, split7Hi 65535) = (0x7F, 0xFF) ∧ join7 0x10 0x01 = 144 ∧ join7 0xFF 0xFF = 32767 ∧
      join7 0x80 0x00 = 128 := by
  decide

/-- V3.5: the buffer of the reset CS under the example values. -/
theorem test_encodeSetup : (encodeSetup (layoutOf params) idle.cs).toList = content35.toList ++ [0x6C] := by decide

/-- V3.8: a CS that is not 7-bit clean, bytes 17 to 31. -/
theorem test_encodeSetup_not_clean :
    let cs : ConsoleState :=
      ⟨3, ⟨0x80, 1⟩, ⟨2, 3⟩, ⟨4, 5⟩, ⟨6, 7⟩, ⟨8, 9⟩, ⟨10, 11⟩, ⟨12, 13⟩, ⟨14, 15⟩, 0, 16383, 16384, 32768, 65535,
        #v[0xDE, 0xAD, 0xBE, 0xEF]⟩
    (encodeSetup defaultLayout cs).toList.drop 17 =
      [0x00, 0x00, 0x7F, 0x7F, 0x00, 0x80, 0x00, 0x00, 0x7F, 0xFF, 0xDE, 0xAD, 0xBE, 0xEF, 0x5E] := by
  decide

/-- V4.1 and V4.2. -/
theorem test_decodeCst :
    verNorm 0x2F = 0xFF ∧ verNorm 0x00 = 0xD0 ∧ (decodeCst rec8).toList.drop 16 = [0x40, 0x7F, 0x20, 0x01, 0x02] := by
  decide

/-- V5.1 and V5.2: 9-bit two's complement, bits 7:3 of the flags ignored. -/
theorem test_decodeMotion :
    signMag true 255 = 0b100000001 ∧ signMag true 0 = 0 ∧
      decodeMotion (idle.rxb.set 0 0xF9 |>.set 1 0x01 |>.set 2 0x02 |>.set 3 0x03) =
        ⟨BitVec.ofInt 9 (-1), BitVec.ofInt 9 2, BitVec.ofInt 9 3⟩ := by
  decide

/-- V5.3 and V5.4. -/
theorem test_event_values :
    knobValue 0x7F 0x7F = 16383 ∧ xpdrValue 0x07 0x2C = 812 ∧ xpdrValue 0xFC 0x80 = 128 ∧ toggleValue 0x80 = 1 ∧
      trimControl 0x3E 2 = some 0x81 ∧ trimControl 0x05 1 = some 0x82 ∧ trimControl 0x3E 3 = none := by
  decide

/-- V5.5. -/
theorem test_decodeEvent :
    decodeEvent params 0x00 0x55 0x2A = some ⟨.none, 0, 0⟩ ∧ decodeEvent params 0x3E 0x02 0x7F = some ⟨.button, 0x81, 0⟩ ∧
      decodeEvent params 0x02 0x10 0x01 = some ⟨.knob, 0x02, 144⟩ ∧
      decodeEvent params 0x18 0x80 0x00 = some ⟨.toggle, 0x18, 1⟩ ∧
      decodeEvent params 0x38 0x4D 0x00 = some ⟨.slider, 0x38, 77⟩ ∧ decodeEvent params 0x01 0 0 = none ∧
      decodeEvent params 0xFF 0 0 = none ∧ decodeEvent params 0x03 0 0 = none := by
  decide

/-- R213: the transponder variant reports the radio-tune knob with the 10-bit packing. -/
theorem test_decodeEvent_xpdr :
    decodeEvent { params with idOther := [(0x07, .knobXpdr), (0x06, .knob)], ctrlRadioTune := 0x06 } 0x07 0x07 0x2C =
      some ⟨.knob, 0x06, 812⟩ := by
  decide

/-! ### Operations: starts (R139, R150, R170, R186, R200) -/

theorem test_handshake_starts :
    got (exec .handshake idle) (fun t => (t.seq, t.sub, t.hsState, t.requests.drop 2)) =
      some (.hsProbe, .rd, .awaitingSync, [.setReadTimeout 0 50, .read 1]) := by
  decide

theorem test_handshake_ignored_while_busy :
    got (exec .handshake (running .poll .poSync .rd)) (fun t => (t.seq, t.op)) = some (.poSync, .poll) := by
  decide

theorem test_fetch_starts :
    got (exec .fetch { idle with cstValid := true }) (fun t => (t.seq, t.sub, t.cstValid, t.cmdb.toList, t.requests.drop 2)) =
      some (.feC36Tx, .wr, false, [0xA5, 0x36, 0x6C], [.write 0xA5]) := by
  decide

theorem test_setup_starts :
    got (exec .setup idle) (fun t => (t.seq, t.tries, t.ck, t.txb[31], t.requests.drop 2)) =
      some (.suCue, 1, 0x13, 0x6C, [.setReadTimeout 0 440, .read 1]) := by
  decide

/-- V11.2. -/
theorem test_poll_starts :
    got (exec .poll { idle with pollValid := true, cstValid := true, result := ⟨true, true, .none⟩ })
        (fun t => (t.seq, t.pollValid, t.cstValid, t.result.done, t.busy)) =
      some (.poSync, false, true, false, true) := by
  decide

theorem test_teardown_starts :
    got (exec .teardown idle) (fun t => (t.seq, t.op, t.hsState)) = some (.hsProbe, .teardown, .awaitingSync) := by decide

theorem test_reserved_codes_ignored :
    got (exec .opReserved0 idle) (fun t => (t.busy, t.op)) = some (false, .none) ∧
      got (exec (.opReserved67 1) idle) (fun t => (t.busy, t.op)) = some (false, .none) := by
  decide

/-! ### Codes and frames on the channel -/

/-- R170, R135: the pair of FETCH's frame is set after SYNC. -/
theorem test_sync_received :
    got (exec .sync (running .fetch .feSync .rd)) (fun t => (t.seq, t.rtoMult, t.rtoConst)) = some (.feSeed, 42, 440) := by
  decide

/-- R132: a gap of 42 ms follows the first byte. -/
theorem test_sync_sent :
    got (exec .sync { running .handshake .hsRstTx .wr with cmdb := #v[0xA5, 0x16, 0x4C] })
        (fun t => (t.sub, t.idx, t.timer)) =
      some (.dly, 1, 42) := by
  decide

/-- The end of SETUP (R186). -/
theorem test_ack_received :
    got (exec .ack (running .setup .suWrAck .rd)) (fun t => (t.busy, t.result)) = some (false, ⟨true, true, .none⟩) := by
  decide

/-- R150 (c), R156: the last nudge ends HANDSHAKE with Timeout and TEARDOWN with ok. -/
theorem test_ack_sent_as_nudge :
    got (exec .ack { running .handshake .hsNudge .wr with pass := 1 }) (fun t => (t.pass, t.result, t.hsState)) =
        some (2, ⟨true, false, .timeout⟩, .idle) ∧
      got (exec .ack { running .teardown .hsNudge .wr with pass := 1 }) (fun t => (t.result, t.hsState)) =
        some (⟨true, true, .none⟩, .idle) := by
  decide

/-- V7.1. -/
theorem test_idleSync_received :
    got (exec .idleSync (running .handshake .hsProbe .rd)) (fun t => (t.result, t.hsState)) =
      some (⟨true, true, .none⟩, .synchronized) := by
  decide

/-- A command frame the engine does not send is bytes like any others: held while nothing is read. -/
theorem test_cmd_arrives : got (exec (.cmd 0x19 0x43) idle) (fun t => t.held) = some [0xA5, 0x19, 0x43] := by decide

/-- R138: after the reset frame the 500 ms wait for its acknowledge. -/
theorem test_cmdReset_sent :
    got (exec .cmdReset { running .handshake .hsRstTx .wr with cmdb := #v[0xA5, 0x16, 0x4C] })
        (fun t => (t.seq, t.rtoConst, t.requests.drop 2)) =
      some (.hsRstAck, 500, [.delay 42, .write 0x16, .delay 42, .write 0x4C, .setReadTimeout 0 500, .read 1]) := by
  decide

theorem test_cmdPrefetch_sent :
    got (exec .cmdPrefetch { running .fetch .feC36Tx .wr with cmdb := #v[0xA5, 0x36, 0x6C] }) (fun t => (t.seq, t.sub)) =
      some (.feC36Ack, .rd) := by
  decide

theorem test_cmdFetch_sent :
    got (exec .cmdFetch { running .fetch .feC23Tx .wr with cmdb := #v[0xA5, 0x23, 0x79] }) (fun t => (t.seq, t.sub)) =
      some (.feC23Ack, .rd) := by
  decide

theorem test_cue_received :
    got (exec .cue (running .setup .suCue .rd)) (fun t => (t.seq, t.sub, t.requests.drop 2)) =
      some (.suCueAckTx, .wr, [.read 1, .read 1, .write 0x06]) := by
  decide

/-- V8.1: the frame before its acknowledge. -/
theorem test_cstFrame_received :
    got (exec (.cstFrame 0x23 rec8 0x40) { running .fetch .feSync .rd with tries := 1 })
        (fun t => (t.seq, t.ck, t.cstValid, t.requests.drop 2)) =
      some (.feAckTx, 0x3F, false, [.setReadTimeout 42 440, .read 1, .read 21, .read 1, .write 0x06]) := by
  decide

/-- V8.2: the third bad frame. -/
theorem test_cstFrame_rejected :
    got (exec (.cstFrame 0x23 rec8 0x41) { running .fetch .feSync .rd with tries := 3 }) (fun t => (t.busy, t.result)) =
      some (false, ⟨true, false, .checksumMismatch⟩) := by
  decide

set_option maxRecDepth 4000 in
/-- V9.1: 34 writes, 33 of them after a gap, then the wait for the acknowledge. -/
theorem test_setupWrite_sent :
    got
        (exec (.setupWrite content35 0x6C)
          { running .setup .suWrTx .wr with txb := vecOf 32 (content35.toList ++ [0x6C]) })
        (fun t => (t.seq, t.idx, t.requests.length)) =
      some (.suWrAck, 34, 2 + 66 + 2) := by
  decide

/-- V10.9: a fold that is not 0x7F. -/
theorem test_pollFrame_rejected :
    got (exec (.pollFrame 0x03 0x0A 0x14 0x05 0x38 0x4D 0x00 0x13) (running .poll .poSync .rd))
        (fun t => (t.result, t.requests.drop 2)) =
      some (⟨true, false, .checksumMismatch⟩, [.read 8]) := by
  decide

/-- R232: a corrupt frame is tested before its id is looked at; a good one is acknowledged first. -/
theorem test_pollFrame_received :
    got (exec (.pollFrame 0 0 0 0 0x4D 0 0 0x32) (running .poll .poSync .rd)) (fun t => (t.seq, t.requests.drop 2)) =
      some (.poAckTx, [.read 8, .write 0x06]) := by
  decide

/-! ### Raw control ids: POLL's last part -/

/-- POLL about to classify the frame of S4 (V10.1), with this event triplet. -/
def classifying (id v1 v2 : Byte) : State :=
  { running .poll .poAckTx .wr with
    rxb := vecOf 21 [0x03, 0x0A, 0x14, 0x05, id, v1, v2, 0x12] }

/-- The result and the event of a test on POLL. -/
def event (o : Host.Outcome State Fault Refusal) : Option (ResultReg × Bool × EventRec) :=
  got o fun t => (t.result, t.pollValid, t.evt)

/-- What a protocol violation leaves. -/
def violation : Option (ResultReg × Bool × EventRec) :=
  some (⟨true, false, .protocolViolation⟩, false, ⟨.none, 0, 0⟩)

theorem test_idNone : event (exec .idNone (classifying 0 0x55 0x2A)) = some (⟨true, true, .none⟩, true, ⟨.none, 0, 0⟩) := by
  decide
/-- V10.12: MOT is not written. -/
theorem test_idInvalid01 :
    event (exec .idInvalid01 (classifying 1 0 0)) = violation ∧
      got (exec .idInvalid01 (classifying 1 0 0)) (fun t => t.mot) = some ⟨0, 0, 0⟩ := by
  decide
theorem test_idCourseSelector :
    event (exec .idCourseSelector (classifying 2 0x10 0x01)) = some (⟨true, true, .none⟩, true, ⟨.knob, 0x02, 144⟩) := by
  decide
theorem test_idNav1On :
    event (exec .idNav1On (classifying 0x18 0x80 0)) = some (⟨true, true, .none⟩, true, ⟨.toggle, 0x18, 1⟩) := by
  decide
/-- V10.1. -/
theorem test_idThrottle :
    event (exec .idThrottle (classifying 0x38 77 0)) = some (⟨true, true, .none⟩, true, ⟨.slider, 0x38, 77⟩) ∧
      got (exec .idThrottle (classifying 0x38 77 0)) (fun t => t.mot) =
        some ⟨BitVec.ofInt 9 (-10), BitVec.ofInt 9 (-20), BitVec.ofInt 9 5⟩ := by
  decide
/-- V10.3 and V10.13. -/
theorem test_idTrim :
    event (exec .idTrim (classifying 0x3E 2 0)) = some (⟨true, true, .none⟩, true, ⟨.button, 0x81, 0⟩) ∧
      event (exec .idTrim (classifying 0x3E 3 0)) = violation := by
  decide
theorem test_idInvalid4D : event (exec .idInvalid4D (classifying 0x4D 0 0)) = violation := by decide
theorem test_idInvalid4E4F : event (exec (.idInvalid4E4F 1) (classifying 0x4F 0 0)) = violation := by decide
theorem test_idInvalid505F : event (exec (.idInvalid505F 0) (classifying 0x50 0 0)) = violation := by decide
theorem test_idInvalid607F : event (exec (.idInvalid607F 31) (classifying 0x7F 0 0)) = violation := by decide
theorem test_idInvalid80FF : event (exec (.idInvalid80FF 0) (classifying 0x80 0 0)) = violation := by decide
theorem test_idOther :
    event (exec (.idOther 3) { classifying 3 9 0 with params := { params with idOther := [(3, .switch)] } }) =
        some (⟨true, true, .none⟩, true, ⟨.switch, 3, 9⟩) ∧
      event (exec (.idOther 3) { classifying 3 9 0 with params := { params with idOther := [(3, .none)] } }) =
        some (⟨true, true, .none⟩, true, ⟨.none, 0, 0⟩) ∧
      event (exec (.idOther 3) (classifying 3 9 0)) = violation := by
  decide

/-! ### Single steps -/

/-- R136 and V10.15: with WAIT_SKIP_MAX 0 a stale byte ends the wait. -/
theorem test_step_stale_byte :
    got (step { running .poll .poSync .rd with inbox := [.frame [0x58]] }) (fun t => (t.result, t.held)) =
      some (⟨true, false, .timeout⟩, []) := by
  decide

/-- R136's example: the second A5 restarts the match at 1. -/
theorem test_step_cue_restart :
    got
        (step
          { running .setup .suCue .rd with
            params := { params with waitSkipMax := 1 }
            inbox := [.frame [0xA5, 0xA5, 0x23, 0x5C]] })
        (fun t => (t.seq, t.skip)) =
      some (.suCueAckTx, 1) := by
  decide

/-- V9.3's attempt: A5 22 is no cue. -/
theorem test_step_cue_violation :
    got (step { running .setup .suCue .rd with tries := 1, inbox := [.frame [0xA5, 0x22]] })
        (fun t => (t.seq, t.tries, t.lastErr)) =
      some (.suCue, 2, .protocolViolation) := by
  decide

/-- R45: a read is all or nothing, so too few bytes answer nothing. -/
theorem test_step_short_read_waits :
    got (step { running .poll .poPayload .rd with held := [1, 2, 3, 4], inbox := [.grant] }) (fun t => (t.seq, t.held)) =
      some (.poPayload, [1, 2, 3, 4]) := by
  decide

/-- R133: the Transport's fail is ShortTransfer there. -/
theorem test_step_short_read_fails :
    got (step { running .poll .poPayload .rd with held := [1, 2, 3, 4], inbox := [.deny 3] }) (fun t => (t.result, t.held)) =
      some (⟨true, false, .shortTransfer⟩, [4]) := by
  decide

/-- R186: the settle delay ends with its last tick. -/
theorem test_step_settle_ends :
    got (step { running .setup .suSettle .dly with timer := 1, inbox := [.tick] })
        (fun t => (t.seq, t.sub, t.tries, t.requests.drop 2)) =
      some (.suWrTx, .wr, 1, [.write 0xA5]) := by
  decide

/-- V11.4: reset in mid-transmission. -/
theorem test_step_reset :
    got (step { running .setup .suWrTx .wr with idx := 10, inbox := [.reset] }) (fun t => (t.seq, t.busy, t.idx, t.result.done)) =
      some (.idle, false, 0, false) := by
  decide

/-- The machine at reset runs an instruction placed where it fetches next, for every OPEN parameter. -/
theorem test_step_from_reset :
    got (step (State.reset.withFetchWord 8 2)) (fun t => (t.seq, t.busy)) = some (.feC36Tx, true) ∧
      got (step (State.reset.withFetchWord 8 0x01)) (fun t => (t.seq, t.op)) = some (.hsProbe, .handshake) ∧
      got (step (State.reset.withFetchWord 24 0x5C23A5)) (fun t => t.held) = some [0xA5, 0x23, 0x5C] ∧
      got (step (State.reset.withFetchWord 8 0x38)) (fun t => (t.evt, t.result)) =
        some (⟨.slider, 0x38, 0⟩, ⟨true, true, .none⟩) := by
  decide

/-- R11, R12, R22, R27, R230: the codes of the enumerations. -/
theorem test_codes :
    opCode .teardown = 5 ∧ errCode .protocolViolation = 4 ∧ hsCode .synchronized = 3 ∧ tagCode .knob = 5 ∧ subCode .dly = 3 ∧
      labelCode .poAckTx = 22 ∧ labelCode .suSettle = 17 := by
  decide

/-- R31: no value is read from an output file under a clear valid flag. -/
theorem test_clientView : (clientView idle).cst = none ∧ (clientView { idle with pollValid := true }).evt = some ⟨.none, 0, 0⟩ := by
  decide

/-! ### Witnesses: the hypotheses of each obligation, met together -/

/-- A wait has just begun at a label. -/
def fresh (o : Op) (l : Label) : State := running o l .rd

theorem test_witness_DecodeOfEncode :
    (Instr.cmd 0x19 0x43).wf = true ∧ (Instr.setupWrite content35 0x6C).wf = true ∧ (Instr.idOther 0x4C).wf = true ∧
      (Instr.opReserved67 1).wf = true := by
  decide

theorem test_witness_EncodeOfDecode :
    decode .client [7] = .ok (.opReserved67 1) ∧ decode .channel [0xA5, 0xFF, 0x25] = .ok (.cmd 0xFF 0x25) ∧
      decode .rawId [0xFF] = .ok (.idInvalid80FF 0x7F) := by
  decide

theorem test_witness_StepRunsDecodedInstruction :
    ({ idle with inbox := [.start 7] }.inbox = .start 7 :: [] ∧ decode .client [(7 : BitVec 3).setWidth 8] = .ok (.opReserved67 1)) ∧
    ({ idle with inbox := [.frame [0xA5, 0x19, 0x43]] }.inbox = .frame [0xA5, 0x19, 0x43] :: [] ∧
      decode .channel [0xA5, 0x19, 0x43] = .ok (.cmd 0x19 0x43) ∧ (Instr.cmd 0x19 0x43).wf = true) ∧
    (∃ s : State, s.inbox = .grant :: [] ∧ s.seq = .poAckTx ∧ s.sub = .wr ∧ decode .rawId [s.rxb[4]] = .ok .idThrottle) := by
  refine ⟨by decide, by decide, { classifying 0x38 77 0 with inbox := [.grant] }, ?_⟩
  decide

theorem test_witness_StepWithoutInstruction :
    idle.inbox = [] ∧ { idle with inbox := [.frame [0x58, 0x58]] }.inbox = .frame [0x58, 0x58] :: [] ∧
      decode .channel [0x58, 0x58] = .error .wrongLength ∧ decode .channel [0xA5, 0x19, 0x44] = .ok (.cmd 0x19 0x44) ∧
      (Instr.cmd 0x19 0x44).wf = false := by
  decide

/-- The starts from idle (HandshakeAndTeardownStart, FetchSetupAndPollStart, OperationsEndWithinTheirBound). -/
theorem test_witness_starts :
    idle.busy = false ∧ (∃ t, exec .handshake idle = .next t) ∧ (∃ t, exec .teardown idle = .next t) ∧
      (∃ t, exec .fetch idle = .next t) ∧ (∃ t, exec .setup idle = .next t) ∧ ∃ t, exec .poll idle = .next t :=
  ⟨rfl, ⟨_, rfl⟩, ⟨_, rfl⟩, ⟨_, rfl⟩, ⟨_, rfl⟩, ⟨_, rfl⟩⟩

theorem test_witness_IgnoredStarts : (running .poll .poSync .rd).busy = true := by decide

theorem test_witness_SyncReceived : FreshWait .feSync (fresh .fetch .feSync) ∧ FreshWait .poSync (fresh .poll .poSync) := by
  decide

theorem test_witness_SyncSent :
    FreshFrame .suWrTx (running .setup .suWrTx .wr) ∧
      FreshFrame .feC36Tx { running .fetch .feC36Tx .wr with cmdb := #v[0xA5, 0x36, 0x6C] } ∧
      { running .fetch .feC36Tx .wr with cmdb := #v[0xA5, 0x36, 0x6C] }.cmdb[0] = 0xA5 := by
  decide

theorem test_witness_AckReceived :
    FreshWait .hsRstAck (fresh .handshake .hsRstAck) ∧ FreshWait .feC36Ack (fresh .fetch .feC36Ack) ∧
      FreshWait .feC23Ack (fresh .fetch .feC23Ack) ∧ FreshWait .suWrAck (fresh .setup .suWrAck) := by
  decide

theorem test_witness_AckSent :
    ((running .fetch .feAckTx .wr).sub = .wr ∧ (running .fetch .feAckTx .wr).seq = .feAckTx) ∧
      ((running .setup .suCueAckTx .wr).sub = .wr ∧ (running .setup .suCueAckTx .wr).seq = .suCueAckTx) ∧
      ((classifying 0x38 77 0).sub = .wr ∧ (classifying 0x38 77 0).seq = .poAckTx) := by
  decide

/-- At the boundary of the passes: the first pass of two and the last. -/
theorem test_witness_NudgeEndsThePass :
    (∀ p : BitVec 8, { running .handshake .hsNudge .wr with pass := p, inbox := [.deny 0] }.seq = .hsNudge ∧
      { running .handshake .hsNudge .wr with pass := p, inbox := [.deny 0] }.sub = .wr ∧
      { running .handshake .hsNudge .wr with pass := p, inbox := [.deny 0] }.inbox = .deny 0 :: []) ∧
      (0 : BitVec 8) + 1 < passesOf params ∧ ¬((1 : BitVec 8) + 1 < passesOf params) :=
  ⟨fun _ => ⟨rfl, rfl, rfl⟩, by decide, by decide⟩

theorem test_witness_IdleSyncReceived :
    FreshWait .hsProbe (fresh .handshake .hsProbe) ∧ FreshWait .hsSync (fresh .teardown .hsSync) := by
  decide

theorem test_witness_CommandFrameSent :
    (FreshFrame .hsRstTx { running .handshake .hsRstTx .wr with cmdb := #v[0xA5, 0x16, 0x4C] } ∧
        { running .handshake .hsRstTx .wr with cmdb := #v[0xA5, 0x16, 0x4C] }.cmdb = #v[0xA5, 0x16, 0x4C]) ∧
      (FreshFrame .feC36Tx { running .fetch .feC36Tx .wr with cmdb := #v[0xA5, 0x36, 0x6C] } ∧
        { running .fetch .feC36Tx .wr with cmdb := #v[0xA5, 0x36, 0x6C] }.cmdb = #v[0xA5, 0x36, 0x6C]) ∧
      (FreshFrame .feC23Tx { running .fetch .feC23Tx .wr with cmdb := #v[0xA5, 0x23, 0x79] } ∧
        { running .fetch .feC23Tx .wr with cmdb := #v[0xA5, 0x23, 0x79] }.cmdb = #v[0xA5, 0x23, 0x79]) ∧
      (FreshFrame .hsRstTx { running .handshake .hsRstTx .wr with cmdb := #v[0xA5, 0xFF, 0x25] } ∧
        { running .handshake .hsRstTx .wr with cmdb := #v[0xA5, 0xFF, 0x25] }.cmdb = #v[0xA5, 0xFF, 0x25]) := by
  decide

theorem test_witness_CommandFrameIsWritesAndGaps :
    FreshFrame .feC23Tx { running .fetch .feC23Tx .wr with cmdb := #v[0xA5, 0x23, 0x79] } ∧
      { running .fetch .feC23Tx .wr with cmdb := #v[0xA5, 0x23, 0x79] }.cmdb = #v[0xA5, 0x23, 0x79] := by
  decide

/-- Also for SetupCompletes. -/
theorem test_witness_CueReceived :
    FreshWait .suCue { fresh .setup .suCue with txb := vecOf 32 (content35.toList ++ [0x6C]) } ∧
      { fresh .setup .suCue with txb := vecOf 32 (content35.toList ++ [0x6C]) }.txb.toList = content35.toList ++ [0x6C] := by
  decide

/-- Also for FetchAcceptsCorrectFrames; a valid frame, and an invalid one before and at the end of the attempts. -/
theorem test_witness_ControlsFrameReceived :
    (∀ n : BitVec 2, FreshWait .feSync { fresh .fetch .feSync with tries := n }) ∧
      (0x23 : Byte) ^^^ fold rec8.toList ^^^ 0x40 = 0x7F ∧ (0x23 : Byte) ^^^ fold rec8.toList ^^^ 0x41 ≠ 0x7F ∧
      (2 : BitVec 2).toNat < 3 ∧ ¬((3 : BitVec 2).toNat < 3) :=
  ⟨fun _ => ⟨rfl, rfl, rfl, rfl⟩, by decide, by decide, by decide, by decide⟩

theorem test_witness_SetupWriteSent :
    FreshFrame .suWrTx { running .setup .suWrTx .wr with txb := vecOf 32 (content35.toList ++ [0x6C]) } ∧
      { running .setup .suWrTx .wr with txb := vecOf 32 (content35.toList ++ [0x6C]) }.txb.toList = content35.toList ++ [0x6C] := by
  decide

/-- Also for PollDeliversTheDecode. -/
theorem test_witness_PollFrameReceived :
    FreshWait .poSync (fresh .poll .poSync) ∧ fold [0x03, 0x0A, 0x14, 0x05, 0x38, 0x4D, 0x00, 0x12] = 0x7F ∧
      decodeEvent (fresh .poll .poSync).params 0x38 0x4D 0x00 = some ⟨.slider, 0x38, 77⟩ := by
  decide

/-- At idle, in a delay, and at writes of other bytes than those that come. -/
theorem test_witness_BytesAreHeldWhileNotReading :
    idle.sub ≠ .rd ∧ (running .setup .suSettle .dly).sub ≠ .rd ∧ ¬((running .setup .suSettle .dly).sub = .wr) ∧
      (running .setup .suWrTx .wr).sub ≠ .rd ∧ sendsAck (running .setup .suWrTx .wr).seq ≠ true ∧
      outFrame (running .setup .suWrTx .wr) ≠ [0xA5, 0x16, 0x4C] ∧ sendsFrame (running .poll .poAckTx .wr).seq ≠ true ∧
      outFrame (running .setup .suWrTx .wr) ≠ 0xA5 :: 0x19 :: (content35.toList ++ [0x6C]) ∧
      decode .channel [0x58, 0x58] = .error .wrongLength := by
  decide

theorem test_witness_OtherIdsFollowTheirClass : (Instr.idOther 0x03).wf = true ∧ (Instr.idOther 0x4C).wf = true := by decide

theorem test_witness_InvalidIdsAreViolations :
    idClass (classifying 0x4D 0 0).params (classifying 0x4D 0 0).rxb[4] = .invalid ∧ (classifying 0x4D 0 0).seq = .poAckTx ∧
      (classifying 0x4D 0 0).sub = .wr ∧ 0x4C < (0x4D : Byte).toNat := by
  decide

theorem test_witness_EventArmsByClass :
    idClass params 0x02 = .knob ∧ idClass { params with idOther := [(0x4C, .button)] } 0x4C = .button ∧
      idClass params 0x18 = .toggle ∧ idClass { params with idOther := [(0x03, .switch)] } 0x03 = .switch ∧
      idClass params 0x38 = .slider ∧ (0x7F : Byte).getLsbD 7 = false ∧
      idClass { params with idOther := [(0x04, .knobXpdr), (0x05, .knob)], ctrlRadioTune := 0x05 } 0x04 = .knobXpdr ∧
      idClass { params with idOther := [(0x04, .knobXpdr), (0x05, .knob)], ctrlRadioTune := 0x05 } 0x05 = .knob := by
  decide

theorem test_witness_CodecFunctionsFollowTheirRules : (32767 : Half).toNat ≤ 32767 := by decide

theorem test_witness_ChecksumDetectsAndAgrees :
    (2 : Nat) < [0x23, 0x5C, 0x00].length ∧ fold [0x23, 0x5C, 0x00] = 0x7F ∧ ([0x23, 0x5C, 0x00] : List Byte)[2]? ≠ some 0x80 := by
  decide

theorem test_witness_SetupBufferRoundTrip :
    idle.cs.nav1Crs.toNat < 32768 ∧ idle.cs.nav2Obs.toNat < 32768 ∧ idle.cs.adfBrg.toNat < 32768 ∧
      idle.cs.baro.toNat < 32768 ∧ (32767 : Half).toNat < 32768 := by
  decide

/-- A wait with a budget of two, one byte held. -/
def waiting2 : State := { fresh .poll .poSync with held := [0x58], params := { params with waitSkipMax := 2 } }

/-- The three cases: two bytes skipped and the byte taken with one left over; three other bytes; two other bytes and no more. -/
theorem test_witness_WaitSkipsThenTakesOrGivesUp :
    waiting2.sub = .rd ∧ waiting2.matched = 0 ∧ awaited waiting2.seq = [0xA5] ∧ waiting2.skip ≤ waiting2.params.waitSkipMax ∧
      (∀ x ∈ ([0x58, 0x00, 0x06] : List Byte), x ≠ 0xA5) ∧
      (waiting2.held ++ [0x00, 0xA5, 0x07] = [0x58, 0x00] ++ 0xA5 :: [0x07] ∧
        waiting2.skip.toNat + [0x58, 0x00].length ≤ waiting2.params.waitSkipMax.toNat) ∧
      (waiting2.held ++ [0x00, 0x06, 0xA5] = [0x58, 0x00, 0x06] ++ [0xA5] ∧
        waiting2.skip.toNat + [0x58, 0x00, 0x06].length = waiting2.params.waitSkipMax.toNat + 1) ∧
      waiting2.held ++ [0x00] = [0x58, 0x00] := by
  decide

/-- Within the budget; beyond it with a match begun and without, before and at the third attempt; the byte held and arriving. -/
theorem test_witness_CueWaitMismatch :
    ({ fresh .setup .suCue with matched := 1, params := { params with waitSkipMax := 1 } }.matched.toNat < 3 ∧
        cueBytes[(1 : BitVec 2).toNat]? ≠ some 0xA5 ∧
        { fresh .setup .suCue with matched := 1, params := { params with waitSkipMax := 1 } }.skip ≠ 1) ∧
      ({ fresh .setup .suCue with matched := 2, tries := 3 }.skip = (fresh .setup .suCue).params.waitSkipMax ∧
        cueBytes[(2 : BitVec 2).toNat]? ≠ some 0x5D ∧ ¬((3 : BitVec 2).toNat < 3)) ∧
      cueBytes[(fresh .setup .suCue).matched.toNat]? ≠ some 0x58 ∧ (fresh .setup .suCue).held ++ [0x58] = 0x58 :: [] ∧
      { fresh .setup .suCue with held := [0x58, 0xA5] }.held ++ [0x23] = 0x58 :: [0xA5, 0x23] := by
  decide

/-- Too few bytes held, and exactly enough with one left over. -/
theorem test_witness_HeldBytesComeFirst :
    (running .fetch .fePayload .rd).sub = .rd ∧ { running .fetch .fePayload .rd with held := rec8.toList.take 20 }.held.length < 21 ∧
      readLen .fePayload = 21 ∧ { running .fetch .fePayload .rd with held := rec8.toList ++ [0x40] }.held = rec8.toList ++ [0x40] ∧
      rec8.toList.length = readLen .fePayload ∧ Instr.cue.port = .channel := by
  decide

/-- R277: a byte held when POLL starts answers the first read of its wait. -/
theorem test_step_held_byte_first :
    got (Host.Core.run Sys2Proof.core 2 { idle with held := [0xA5, 0x03], inbox := [.start 4, .grant] })
        (fun t => (t.seq, t.held)) = some (.poPayload, [0x03]) := by
  decide

theorem test_witness_DelayLastsItsTicks :
    ({ running .setup .suSettle .dly with timer := 28 }.sub = .dly ∧ 1 ≤ { running .setup .suSettle .dly with timer := 28 }.timer.toNat) ∧
      1 ≤ { running .setup .suSettle .dly with timer := 1 }.timer.toNat := by
  decide

/-- A wait or a read whose answer is `fail`, and a write. -/
def denied (o : Op) (l : Label) (u : Sub) : State := { running o l u with inbox := [.deny 0] }

theorem test_witness_FailureWithoutRetry :
    ((denied .poll .poSync .rd).inbox = .deny 0 :: [] ∧ (denied .poll .poSync .rd).seq = .poSync) ∧
      ((denied .poll .poPayload .rd).seq = .poPayload ∧ (denied .poll .poPayload .rd).sub = .rd) ∧
      ((denied .fetch .feC23Tx .wr).seq = .feC23Tx ∧ (denied .fetch .feC23Tx .wr).sub = .wr) := by
  decide

/-- The three forms, and both ends of the attempts. -/
theorem test_witness_FetchRetriesFailures :
    ((denied .fetch .feSync .rd).seq = .feSync ∧ (denied .fetch .feSync .rd).sub = .rd ∧
        (denied .fetch .feSync .rd).held.drop 0 = []) ∧
      ((denied .fetch .feTrail .rd).seq = .feTrail ∧ (denied .fetch .feTrail .rd).sub = .rd) ∧
      ((denied .fetch .feAckTx .wr).seq = .feAckTx ∧ (denied .fetch .feAckTx .wr).sub = .wr) ∧
      { denied .fetch .feSync .rd with tries := 2 }.tries.toNat < 3 ∧
      ¬({ denied .fetch .feSync .rd with tries := 3 }.tries.toNat < 3) := by
  decide

/-- Both stages, a wait and a write of each, and both ends of the attempts. -/
theorem test_witness_SetupRetriesFailures :
    ((denied .setup .suCue .rd).inbox = .deny 0 :: [] ∧ (denied .setup .suCue .rd).seq = .suCue ∧
        (denied .setup .suCue .rd).sub = .rd ∧ (denied .setup .suCue .rd).held.drop 0 = []) ∧
      ((denied .setup .suCueAckTx .wr).seq = .suCueAckTx ∧ (denied .setup .suCueAckTx .wr).sub = .wr) ∧
      ((denied .setup .suWrAck .rd).seq = .suWrAck ∧ (denied .setup .suWrAck .rd).sub = .rd) ∧
      ((denied .setup .suWrTx .wr).seq = .suWrTx ∧ (denied .setup .suWrTx .wr).sub = .wr) ∧
      { denied .setup .suWrTx .wr with tries := 2 }.tries.toNat < 3 ∧
      ¬({ denied .setup .suWrTx .wr with tries := 3 }.tries.toNat < 3) := by
  decide

/-- The probe, the reset command's write and acknowledge, and step 3. -/
theorem test_witness_HandshakeGoesOnAfterFailures :
    ((denied .handshake .hsProbe .rd).inbox = .deny 0 :: [] ∧ (denied .handshake .hsProbe .rd).seq = .hsProbe) ∧
      ((denied .handshake .hsRstTx .wr).seq = .hsRstTx ∧ (denied .handshake .hsRstTx .wr).sub = .wr) ∧
      ((denied .teardown .hsRstAck .rd).seq = .hsRstAck ∧ (denied .teardown .hsRstAck .rd).sub = .rd ∧
        (denied .teardown .hsRstAck .rd).held.drop 0 = []) ∧
      ((denied .handshake .hsSync .rd).seq = .hsSync ∧ (denied .handshake .hsSync .rd).sub = .rd) ∧
      (2 : BitVec 2).toNat < 3 ∧ ¬((3 : BitVec 2).toNat < 3) := by
  decide

/-- The nine inputs of a silent pass, for HANDSHAKE and for TEARDOWN. -/
def silentPass : List Input :=
  [.deny 0, .frame [0xA5, 0x16, 0x4C], .deny 0, .frame [0xA5, 0x16, 0x4C], .deny 0, .frame [0xA5, 0x16, 0x4C], .deny 0, .deny 0,
    .grant]

theorem test_witness_SilentHandshakePass :
    { fresh .handshake .hsProbe with inbox := silentPass }.seq = .hsProbe ∧
      { fresh .handshake .hsProbe with inbox := silentPass }.sub = .rd ∧
      { fresh .teardown .hsProbe with inbox := silentPass }.op = .teardown ∧
      { fresh .handshake .hsProbe with inbox := silentPass }.inbox = silentPass ++ [] := by
  decide

/-- A POLL about to be answered: every invariant holds, and a step is taken. -/
def polling : State :=
  { fresh .poll .poSync with
    rtoConst := 100
    lastErr := .timeout
    requests := [.setReadTimeout 0 100, .read 1]
    inbox := [.frame [0xA5]] }

/-- For the statements that every step keeps something, OutputsWaitForTheReturn and OnlyOwnersWrite. -/
theorem test_witness_every_step :
    StandsInv polling ∧ CountInv polling ∧ TimerInv polling ∧ TimeoutInv polling ∧ OutstandingInv polling ∧
      RequestsInv polling ∧ SendingInv polling ∧ ResultInv polling ∧ ValidInv polling ∧ OutputInv polling ∧ HsInv polling ∧
      polling.inbox.head? ≠ some .reset ∧ got (step polling) (fun t => (t.seq, t.busy)) = some (.poPayload, true) :=
  ⟨by decide, by decide, by decide, by decide, by decide, by decide, by decide, by decide, by decide, by decide, by decide,
    by decide, by decide⟩

/-- The owners' writes: an output file, HS_STATE and CS each change in some step. -/
theorem test_witness_OnlyOwnersWrite :
    (got (step { running .fetch .feAckTx .wr with rxb := rec8, inbox := [.grant] }) (fun t => t.cst[0]) = some 1 ∧
        idle.cst[0] = 0) ∧
      (got (step { classifying 0x38 77 0 with inbox := [.grant] }) (fun t => t.evt) = some ⟨.slider, 0x38, 77⟩ ∧
        idle.evt ≠ ⟨.slider, 0x38, 77⟩) ∧
      got (step { idle with inbox := [.start 1] }) (fun t => t.hsState) = some .awaitingSync ∧
      got (step { idle with inbox := [.writeCs (.setting .baro 3000)] }) (fun t => t.cs.baro) = some 3000 := by
  decide

/-- A transfer that answers a read, and one that is what is written. -/
theorem test_witness_EveryAnswerSpendsBudget :
    StandsInv polling ∧ CountInv polling ∧ SendingInv polling ∧ polling.sub = .rd ∧ polling.busy = true ∧
      readReady { polling with held := [0x58] } = true ∧ (running .poll .poAckTx .wr).sub = .wr ∧ carries [0xA5] polling = true ∧
      carries [0x06] (running .poll .poAckTx .wr) = true := by
  decide

/-- A POLL whose one read is refused: what is outstanding is answered as long as the operation runs. -/
theorem test_witness_OperationsEndWithinTheirBound :
    let s := { polling with inbox := [.deny 0] }
    (StandsInv s ∧ CountInv s ∧ TimerInv s ∧ SendingInv s) ∧
      ∀ (n : Nat) (v : State), Host.Core.run Sys2Proof.core n s = .next v → v.busy = true →
        ∃ e, v.inbox.head? = some e ∧ answers e v = true := by
  refine ⟨⟨by decide, by decide, by decide, by decide⟩, fun n v h hb => ?_⟩
  cases n with
  | zero =>
    cases h
    exact ⟨.deny 0, rfl, rfl⟩
  | succ n =>
    rw [run_succ n _ (returned ⟨true, false, .timeout⟩ { polling with inbox := [] }) rfl, run_quiet _ rfl] at h
    cases h
    cases hb

/-- A start, and a step of a running operation. -/
theorem test_witness_ClientReads :
    idle.busy = false ∧ got (step { idle with inbox := [.start 4] }) (fun t => (t.busy, t.op)) = some (true, .poll) ∧
      polling.busy = true ∧ got (step polling) (fun t => t.busy) = some true ∧ idle.cstValid = false ∧
      { idle with pollValid := true }.pollValid = true := by
  decide

theorem test_witness_ClientWriteAndReset :
    { idle with inbox := [.writeCs (.setting .baro 3000)] }.inbox = .writeCs (.setting .baro 3000) :: [] ∧
      { idle with inbox := [.reset] }.inbox = .reset :: [] := by
  decide

end Sys2Proof.Tests
end

section
/-! The statements of the codec family (spec/40_codec.md): laws of each codec function first, then the statements assembled
from them. -/

namespace Sys2Proof.Machine

/-! ### The fold (R100) -/

theorem fold_append (a b : List Byte) : fold (a ++ b) = fold a ^^^ fold b := by
  induction a with
  | nil => simp
  | cons x xs ih => simp [ih, BitVec.xor_assoc]

theorem fold_concat (l : List Byte) (x : Byte) : fold (l ++ [x]) = fold l ^^^ x := by
  simp [fold_append]

theorem fold_eq_of_perm {a b : List Byte} (h : a.Perm b) : fold a = fold b := by
  induction h with
  | nil => rfl
  | cons x _ ih => simp [ih]
  | swap x y l => simp [← BitVec.xor_assoc, BitVec.xor_comm y x]
  | trans _ _ ih₁ ih₂ => exact ih₁.trans ih₂

/-- Each bit of the fold is the parity of that bit over all bytes. -/
theorem getLsbD_fold (l : List Byte) (j : Nat) :
    (fold l).getLsbD j = decide ((l.countP fun b => b.getLsbD j) % 2 = 1) := by
  induction l with
  | nil => simp
  | cons x xs ih =>
    rw [fold_cons, BitVec.getLsbD_xor, ih, List.countP_cons]
    cases x.getLsbD j with
    | false => simp
    | true =>
      simp only [Bool.true_xor, if_true, ← decide_not, decide_eq_decide]
      omega

/-- Settles O27: the laws of the fold, from its law of concatenation, its invariance under permutation and its bits. -/
theorem foldLaws : Obligations.FoldLaws := by
  unfold Obligations.FoldLaws
  exact ⟨fold_nil, fold_append, fold_concat, fun s seed => fold_cons seed s, fun _ _ => fold_eq_of_perm, getLsbD_fold⟩

/-! ### Complement and checksum (R101 to R103) -/

/-- Bits outside a mask can be flipped without effect under it. -/
theorem xor_and_of_and_eq_zero {w : Nat} (x y m : BitVec w) (h : y &&& m = 0#w) : (x ^^^ y) &&& m = x &&& m := by
  ext i hi
  have hi0 : (y[i] && m[i]) = false := by
    rw [← BitVec.getElem_and, h, BitVec.getElem_zero]
  rw [BitVec.getElem_and, BitVec.getElem_xor, BitVec.getElem_and, Bool.and_xor_distrib_right, hi0, Bool.xor_false]

theorem complementOf_xor_bit7 (c : Byte) : complementOf (c ^^^ 0x80) = complementOf c := by
  have hflip : ~~~(c ^^^ 0x80 ^^^ 0xA5) = ~~~(c ^^^ 0xA5) ^^^ (0x80 : Byte) := by
    rw [BitVec.xor_assoc, BitVec.xor_comm 0x80, ← BitVec.xor_assoc, BitVec.not_xor_left]
  rw [complementOf, hflip, xor_and_of_and_eq_zero _ _ _ (by decide), complementOf]

theorem ckGen_eq_xor (ck : Byte) : ckGen ck = (ck ^^^ 0x7F) &&& 0x7F := by
  have hnot : ~~~ck = ck ^^^ 0x7F ^^^ 0x80 := by
    rw [BitVec.xor_assoc]
    exact BitVec.xor_allOnes.symm
  rw [ckGen, hnot, xor_and_of_and_eq_zero _ _ _ (by decide)]

theorem ckGen_bit7 (ck : Byte) : (ckGen ck).getLsbD 7 = false := by
  simp [ckGen]

theorem ckCheck_iff (ck t : Byte) : ckCheck ck t = true ↔ ck ^^^ t = 0x7F := beq_iff_eq

theorem ckCheck_iff_eq (ck t : Byte) : ckCheck ck t = true ↔ t = ck ^^^ 0x7F := by
  rw [ckCheck_iff]
  constructor
  · intro h
    rw [← h, ← BitVec.xor_assoc, BitVec.xor_self, BitVec.zero_xor]
  · rintro rfl
    rw [← BitVec.xor_assoc, BitVec.xor_self, BitVec.zero_xor]

theorem ckCheck_fold_iff (l : List Byte) (t : Byte) : ckCheck (fold l) t = true ↔ fold (l ++ [t]) = 0x7F := by
  rw [ckCheck_iff, fold_concat]

/-! ### Values packed from two bytes (R110, R111, R120) -/

/-- A high byte shifted up over a low byte stays below every power of two that bounds both parts. -/
theorem packed_toNat_lt {hi lo : Byte} (k n : Nat) (hhi : hi.toNat * 2 ^ k < 2 ^ n) (hlo : lo.toNat < 2 ^ n) :
    ((hi.setWidth 16 <<< k) ||| lo.setWidth 16 : Half).toNat < 2 ^ n := by
  rw [BitVec.toNat_or, BitVec.toNat_shiftLeft, BitVec.toNat_setWidth_of_le (by decide),
    BitVec.toNat_setWidth_of_le (by decide), Nat.shiftLeft_eq]
  exact Nat.or_lt_two_pow ((Nat.mod_le _ _).trans_lt hhi) hlo

theorem join7_toNat_lt (lo hi : Byte) : (join7 lo hi).toNat < 2 ^ 15 :=
  packed_toNat_lt 7 15 (by omega) (by omega)

theorem join7_le (lo hi : Byte) : join7 lo hi ≤ 0x7FFF :=
  BitVec.le_def.mpr (Nat.le_of_lt_succ (join7_toNat_lt lo hi))

theorem toNat_lt_of_bit7_clear {b : Byte} (h : b.getLsbD 7 = false) : b.toNat < 2 ^ 7 :=
  BitVec.toNat_lt_of_msb_false ((BitVec.msb_eq_getLsbD_last b).trans h)

/-- Two bytes with bit 7 clear join to at most 14 bits. -/
theorem join7_toNat_lt_of_bit7_clear {lo hi : Byte} (hlo : lo.getLsbD 7 = false) (hhi : hi.getLsbD 7 = false) :
    (join7 lo hi).toNat < 2 ^ 14 := by
  have := toNat_lt_of_bit7_clear hlo
  have := toNat_lt_of_bit7_clear hhi
  exact packed_toNat_lt 7 14 (by omega) (by omega)

theorem xpdrValue_toNat_lt (v1 v2 : Byte) : (xpdrValue v1 v2).toNat < 2 ^ 10 := by
  have hlow : (v1 &&& 0x03).toNat ≤ 3 := Nat.and_le_right
  exact packed_toNat_lt 8 10 (by omega) (by omega)

theorem split7Lo_toNat (v : Half) : (split7Lo v).toNat = v.toNat % 2 ^ 7 := by
  have hmask : (0x7F : Half).toNat = 2 ^ 7 - 1 := rfl
  rw [split7Lo, BitVec.toNat_setWidth, BitVec.toNat_and, hmask, Nat.and_two_pow_sub_one_eq_mod]
  omega

theorem split7Hi_toNat (v : Half) : (split7Hi v).toNat = v.toNat / 2 ^ 7 % 2 ^ 8 := by
  simp [split7Hi, Nat.shiftRight_eq_div_pow]

theorem join7_toNat_of_lt {lo : Byte} (hlo : lo.toNat < 2 ^ 7) (hi : Byte) :
    (join7 lo hi).toNat = hi.toNat * 2 ^ 7 + lo.toNat := by
  have hshift : hi.toNat <<< 7 % 2 ^ 16 = hi.toNat <<< 7 := by
    rw [Nat.shiftLeft_eq]
    omega
  rw [join7, BitVec.toNat_or, BitVec.toNat_shiftLeft, BitVec.toNat_setWidth_of_le (by decide),
    BitVec.toNat_setWidth_of_le (by decide), hshift, ← Nat.shiftLeft_add_eq_or_of_lt hlo, Nat.shiftLeft_eq]

/-- The join undoes the split short of bit 15, which the split loses. -/
theorem join7_split7 (v : Half) (h : v.toNat ≤ 32767) : join7 (split7Lo v) (split7Hi v) = v := by
  have hlo : (split7Lo v).toNat < 2 ^ 7 := by
    rw [split7Lo_toNat]
    omega
  apply BitVec.eq_of_toNat_eq
  rw [join7_toNat_of_lt hlo, split7Lo_toNat, split7Hi_toNat]
  omega

/-- Settles O28: the codec functions, each by its own laws. -/
theorem codecFunctionsFollowTheirRules : Obligations.CodecFunctionsFollowTheirRules := by
  unfold Obligations.CodecFunctionsFollowTheirRules
  exact ⟨fun c => ⟨rfl, congrArg some (complementOf_xor_bit7 c)⟩,
    fun ck => ⟨rfl, ckGen_eq_xor ck, ckGen_bit7 ck⟩,
    fun ck t => ⟨ckCheck_iff ck t, ckCheck_iff_eq ck t⟩,
    ckCheck_fold_iff,
    fun lo hi => ⟨rfl, join7_le lo hi⟩,
    join7_split7,
    by decide⟩

/-! ### The motion decode (R115, R116) -/

theorem signMag_toInt (s : Bool) (m : Byte) : (signMag s m).toInt = if s then -(m.toNat : Int) else m.toNat := by
  have hmsb : (m.setWidth 9).msb = false := by simp [BitVec.msb_setWidth]
  have hval : (m.setWidth 9).toInt = m.toNat := by
    rw [BitVec.toInt_eq_toNat_of_msb hmsb, BitVec.toNat_setWidth_of_le (by decide)]
  cases s with
  | false => exact hval
  | true => exact (BitVec.toInt_neg_eq_of_msb hmsb).trans (congrArg (- ·) hval)

/-- Settles O31: each axis is the signed magnitude of its own byte and flag. -/
theorem motionDecodeIsExact : Obligations.MotionDecodeIsExact := by
  unfold Obligations.MotionDecodeIsExact
  exact fun rxb => ⟨signMag_toInt _ _, signMag_toInt _ _, signMag_toInt _ _⟩

/-! ### The event decoder (R120, R121, R208 to R217) -/

theorem decodeEvent_of_class {p : Params} {id : Byte} {c : IdClass} (h : idClass p id = c) (v1 v2 : Byte) :
    decodeEvent p id v1 v2 = classArm p id v1 v2 c := by
  rw [decodeEvent, h]

theorem radioTuneOf_of_knob {p : Params} (h : idClass p p.ctrlRadioTune = .knob) : radioTuneOf p = p.ctrlRadioTune :=
  if_pos h

theorem toggleValue_eq (v1 : Byte) : toggleValue v1 = if v1 ≠ 0 then 1 else 0 :=
  (ite_not _ _ _).symm

/-- Settles O25: each class runs its arm, and the value functions stay in their ranges. -/
theorem eventArmsByClass : Obligations.EventArmsByClass := by
  unfold Obligations.EventArmsByClass
  intro p id v1 v2
  refine ⟨decodeEvent_of_class (c := .none) rfl v1 v2, fun h => decodeEvent_of_class h v1 v2, fun h hknob => ?_,
    fun h => decodeEvent_of_class h v1 v2, fun h => ?_, fun h => decodeEvent_of_class h v1 v2,
    fun h => decodeEvent_of_class h v1 v2, rfl, rfl, rfl, fun h1 h2 => ?_, join7_le v1 v2, ?_, toggleValue_eq v1⟩
  · rw [decodeEvent_of_class h, classArm, radioTuneOf_of_knob hknob, armKnobXpdr, xpdrValue]
  · rw [decodeEvent_of_class h, classArm, armToggle, toggleValue_eq]
  · exact BitVec.le_def.mpr (Nat.le_of_lt_succ (join7_toNat_lt_of_bit7_clear h1 h2))
  · exact BitVec.le_def.mpr (Nat.le_of_lt_succ (xpdrValue_toNat_lt v1 v2))

end Sys2Proof.Machine
end

section
/-! The statements of the encoding family (spec/30_encoding.md): the decoder of each format undone by the encoder, and the
other way round. -/

namespace Sys2Proof

/-! ### Bytes of a frame as a list (R61) -/

theorem vecOf_concat {n : Nat} (v : Vector Byte n) (b : Byte) : Machine.vecOf n (v.toList ++ [b]) = v := by
  apply Vector.ext
  intro i h
  simp [List.getD_eq_getElem?_getD, List.getElem?_append_left, h]

theorem getD_concat {n : Nat} (v : Vector Byte n) (b : Byte) : (v.toList ++ [b]).getD n 0 = b := by
  simp [List.getD_eq_getElem?_getD]

/-- A list one longer than a vector is what the vector keeps of it and its last byte. -/
theorem vecOf_toList_concat {n : Nat} (l : List Byte) (h : l.length = n + 1) :
    (Machine.vecOf n l).toList ++ [l.getD n 0] = l := by
  apply List.ext_getElem
  · simp [h]
  · intro i h1 h2
    rcases Nat.lt_or_ge i n with hi | hi
    · rw [List.getElem_append_left (by simpa using hi)]
      simp [List.getD_eq_getElem?_getD, h2]
    · obtain rfl : i = n := by omega
      simp [List.getD_eq_getElem?_getD, h2]

/-! ### Decoding what was encoded -/

theorem complementOf_bit7 (c : Byte) : Machine.complementOf c &&& 0x80 = 0 := by
  rw [Machine.complementOf, BitVec.and_assoc]
  exact BitVec.and_zero

theorem ckGen_and_bit7 (ck : Byte) : Machine.ckGen ck &&& 0x80 = 0 := by
  rw [Machine.ckGen, BitVec.and_assoc]
  exact BitVec.and_zero

/-- A generic command that is none of the named three decodes to the row CMD, the cue's complement being another (R62, R74). -/
theorem decodeThree_generic {c : Byte} (h : namedCommands.contains c = false) :
    decodeThree c (Machine.complementOf c) = .ok (.cmd c (Machine.complementOf c)) := by
  have hnot : c ≠ 0x16 ∧ c ≠ 0x36 ∧ c ≠ 0x23 := by
    simpa [namedCommands] using h
  obtain ⟨h16, h36, h23⟩ := hnot
  rw [decodeThree, if_neg fun h => h16 h.1, if_neg fun h => h36 h.1, if_neg fun h => h23 h.1, if_neg fun h => h23 h.1,
    if_pos (complementOf_bit7 c)]

theorem decode_cmd {c k : Byte} (h : (Instr.cmd c k).wf = true) : decode .channel [0xA5, c, k] = .ok (.cmd c k) := by
  simp only [Instr.wf, Bool.and_eq_true, beq_iff_eq, Bool.not_eq_true'] at h
  obtain ⟨rfl, hnamed⟩ := h
  exact decodeThree_generic hnamed

theorem decode_cstFrame (seed : Byte) (record : Vector Byte 21) (trailing : Byte) :
    decode .channel (0xA5 :: seed :: (record.toList ++ [trailing])) = .ok (.cstFrame seed record trailing) := by
  simp [decode, decodeChannel, decodeAfterSync, vecOf_concat]

/-- 33 bytes after SYNC are read as a setup write (R97). -/
theorem decodeChannel_setupWrite {rest : List Byte} (h : rest.length = 33) :
    decodeChannel (0xA5 :: rest) = decodeSetupWrite rest := by
  obtain ⟨b, tail, rfl⟩ := List.exists_cons_of_length_eq_add_one h
  have htail : tail.length = 32 := by simpa using h
  simp [decodeChannel, decodeAfterSync, htail]

theorem decode_setupWrite {content : Vector Byte 31} {ck : Byte} (h : (Instr.setupWrite content ck).wf = true) :
    decode .channel (0xA5 :: 0x19 :: (content.toList ++ [ck])) = .ok (.setupWrite content ck) := by
  simp only [Instr.wf, beq_iff_eq] at h
  have hhead : ¬(0x19 :: (content.toList ++ [ck])).getD 0 0 ≠ 0x19 := not_not_intro rfl
  have hlast : (0x19 :: (content.toList ++ [ck])).getD 32 0 = ck := getD_concat content ck
  have hbit : ¬(ck &&& 0x80 ≠ 0) := not_not_intro (h ▸ ckGen_and_bit7 _)
  rw [decode, decodeChannel_setupWrite (by simp), decodeSetupWrite, if_neg hhead, hlast, if_neg hbit, List.drop_one,
    List.tail_cons, vecOf_concat]

/-- The row ID_OTHER takes every id up to 0x4C that has no row of its own (R99). -/
theorem decodeRawId_other {id : Byte} (h : (Instr.idOther id).wf = true) : decodeRawId id = .idOther id := by
  revert h
  revert id
  decide

/-- Settles O1: format by format. -/
theorem decodeOfEncode : Obligations.DecodeOfEncode := by
  unfold Obligations.DecodeOfEncode
  intro i hwf
  cases i with
  | cmd c k => exact decode_cmd hwf
  | cstFrame seed record trailing => exact decode_cstFrame seed record trailing
  | setupWrite content ck => exact decode_setupWrite hwf
  | idOther id => exact congrArg Except.ok (decodeRawId_other hwf)
  | opReserved67 low => revert low; decide
  | idInvalid4E4F low => revert low; decide
  | idInvalid505F low => revert low; decide
  | idInvalid607F low => revert low; decide
  | idInvalid80FF low => revert low; decide
  | _ => rfl

/-! ### Encoding what was decoded -/

theorem encode_decodeOp {b : Byte} (h : b.toNat < 8) : encode (decodeOp (b.setWidth 3)) = [b] := by
  revert h
  revert b
  decide

theorem encode_decodeRawId (id : Byte) : encode (decodeRawId id) = [id] := by
  revert id
  decide

theorem decodeRawId_port (id : Byte) : (decodeRawId id).port = .rawId := by
  revert id
  decide

theorem encode_decodeByte {b : Byte} {i : Instr} (h : decodeByte b = .ok i) : encode i = [b] := by
  unfold decodeByte at h
  split_ifs at h with h1 h2 h3
  · cases h; rw [h1]; rfl
  · cases h; rw [h2]; rfl
  · cases h; rw [h3]; rfl

theorem encode_decodeThree {c k : Byte} {i : Instr} (h : decodeThree c k = .ok i) : encode i = [0xA5, c, k] := by
  unfold decodeThree at h
  split_ifs at h with h1 h2 h3 h4
  · cases h; rw [h1.1, h1.2]; rfl
  · cases h; rw [h2.1, h2.2]; rfl
  · cases h; rw [h3.1, h3.2]; rfl
  · cases h; rw [h4.1, h4.2]; rfl
  · cases h; rfl

theorem encode_decodeSetupWrite {rest : List Byte} {i : Instr} (hl : rest.length = 33)
    (h : decodeSetupWrite rest = .ok i) : encode i = 0xA5 :: rest := by
  obtain ⟨b, tail, rfl⟩ := List.exists_cons_of_length_eq_add_one hl
  unfold decodeSetupWrite at h
  split_ifs at h with hb hc
  cases h
  obtain rfl : b = 0x19 := by simpa using hb
  have htail := vecOf_toList_concat (n := 31) tail (by simpa using hl)
  exact congrArg (fun l => (0xA5 : Byte) :: 0x19 :: l) htail

theorem encode_decodeAfterSync {rest : List Byte} {i : Instr} (h : decodeAfterSync rest = .ok i) :
    encode i = 0xA5 :: rest := by
  unfold decodeAfterSync at h
  split_ifs at h with h2 h8 h23 h33
  · obtain ⟨c, k, rfl⟩ := List.length_eq_two.mp h2
    exact encode_decodeThree h
  · cases h
    match rest, h8 with
    | [_, _, _, _, _, _, _, _], _ => rfl
  · cases h
    obtain ⟨seed, tail, rfl⟩ := List.exists_cons_of_length_eq_add_one h23
    exact congrArg (fun l => (0xA5 : Byte) :: seed :: l) (vecOf_toList_concat (n := 21) tail (by simpa using h23))
  · exact encode_decodeSetupWrite h33 h

theorem encode_decodeChannel {bs : List Byte} {i : Instr} (h : decodeChannel bs = .ok i) : encode i = bs := by
  unfold decodeChannel at h
  split at h
  · cases h
  · exact encode_decodeByte h
  · split_ifs at h with _ hsync
    rw [encode_decodeAfterSync h, hsync]

/-- Settles O2: port by port. -/
theorem encodeOfDecode : Obligations.EncodeOfDecode := by
  unfold Obligations.EncodeOfDecode
  intro p bs i h
  unfold decode at h
  split at h
  · split_ifs at h with hb
    cases h
    exact ⟨Machine.decodeOp_port _, encode_decodeOp hb⟩
  · cases h
  · exact ⟨Machine.decodeChannel_port _ _ h, encode_decodeChannel h⟩
  · cases h
    exact ⟨decodeRawId_port _, encode_decodeRawId _⟩
  · cases h

/-- Settles O3: each word by evaluation. -/
theorem specWordsDecode : Obligations.SpecWordsDecode := by
  unfold Obligations.SpecWordsDecode
  decide

end Sys2Proof
end

section
/-! The lines of the sequencer (spec/10_state.md R11, spec/41_primitives.md R130): `Reacts` says once what the answer to an
outstanding request, or the end of a delay, can make of a state; `Starts` says it of an accepted start. Every invariant is a
case analysis of these two. -/

namespace Sys2Proof.Machine

/-- The wait-points at which FETCH's frame loop can fail (R170). -/
def feLoopStands : List (Label × Sub) := [(.feSync, .rd), (.feSeed, .rd), (.fePayload, .rd), (.feTrail, .rd), (.feAckTx, .wr)]

/-- The wait-points at which FETCH fails without retry (R170). -/
def feCommandStands : List (Label × Sub) := [(.feC36Tx, .wr), (.feC36Ack, .rd), (.feC23Tx, .wr), (.feC23Ack, .rd)]

/-- The wait-points of POLL (R200). -/
def poStands : List (Label × Sub) := [(.poSync, .rd), (.poPayload, .rd), (.poAckTx, .wr)]

/-- What the answer to the outstanding request, or the end of the delay, can make of a state: one constructor per line of the
pseudocode that can come next, with what brings it there (R130). The first three are the pairs of SEQ and SUB that are no
wait-point (notes/assumptions/19.md). -/
inductive Reacts (s : State) : State → Prop where
  | ignores (h : subAllowed s.seq s.sub = false) : Reacts s s
  | ignoresByte (m : BitVec 2) (k : BitVec 16) (hu : s.sub = .rd) (h : subAllowed s.seq s.sub = false) :
      Reacts s (issueRead s.seq { s with matched := m, skip := k })
  | nextByte (hu : s.sub = .dly) (hq : s.seq ≠ .suSettle) : Reacts s (issueWrite s.seq { s with timer := 0 })
  | gap (hu : s.sub = .wr) (hf : sendsFrame s.seq = true) (hl : (s.idx + 1).toNat ≠ (outFrame s).length) :
      Reacts s (beginDelay s.seq gapMs { s with idx := s.idx + 1 })
  | fits (b : Byte) (hu : s.sub = .rd) (h : (awaited s.seq)[s.matched.toNat]? = some b)
      (hl : (s.matched + 1).toNat ≠ (awaited s.seq).length) :
      Reacts s (issueRead s.seq { s with matched := s.matched + 1 })
  | skips (b : Byte) (hu : s.sub = .rd) (ha : awaited s.seq ≠ []) (h : (awaited s.seq)[s.matched.toNat]? ≠ some b)
      (hs : s.skip ≠ s.params.waitSkipMax) :
      Reacts s
        (issueRead s.seq { s with skip := s.skip + 1, matched := if (awaited s.seq).head? = some b then 1 else 0 })
  | synced (m : BitVec 2) (h : (s.seq, s.sub) ∈ [(Label.hsProbe, Sub.rd), (.hsSync, .rd)]) :
      Reacts s (returnOk { s with matched := m, hsState := .synchronized })
  | firstReset (h : (s.seq, s.sub) ∈ [(Label.hsProbe, Sub.rd)]) :
      Reacts s (sendCommand .hsRstTx resetCode { s with tries := 1, hsState := .resettingSent })
  | nextReset (h : (s.seq, s.sub) ∈ [(Label.hsRstTx, Sub.wr), (.hsRstAck, .rd)]) (ht : s.tries.toNat < 3) :
      Reacts s (sendCommand .hsRstTx resetCode { s with tries := s.tries + 1, hsState := .resettingSent })
  | rstAckWait (i : BitVec 6) (h : (s.seq, s.sub) ∈ [(Label.hsRstTx, Sub.wr)]) :
      Reacts s (beginWait .hsRstAck { s with idx := i })
  | step3 (m : BitVec 2) (h : (s.seq, s.sub) ∈ [(Label.hsRstTx, Sub.wr), (.hsRstAck, .rd)]) :
      Reacts s (beginWait .hsSync { s with matched := m, hsState := .awaitingSync })
  | nudge (h : (s.seq, s.sub) ∈ [(Label.hsSync, Sub.rd)]) : Reacts s (issueWrite .hsNudge s)
  | nextPass (h : (s.seq, s.sub) ∈ [(Label.hsNudge, Sub.wr)]) (hp : s.pass + 1 < passesOf s.params) :
      Reacts s (beginWait .hsProbe { s with pass := s.pass + 1, hsState := .awaitingSync })
  | hsFails (h : (s.seq, s.sub) ∈ [(Label.hsNudge, Sub.wr)]) (ho : s.op ≠ .teardown) :
      Reacts s (returnErr .timeout { s with pass := s.pass + 1, hsState := .idle })
  | tornDown (h : (s.seq, s.sub) ∈ [(Label.hsNudge, Sub.wr)]) (ho : s.op = .teardown) :
      Reacts s (returnOk { s with pass := s.pass + 1, hsState := .idle })
  | ack36Wait (i : BitVec 6) (h : (s.seq, s.sub) ∈ [(Label.feC36Tx, Sub.wr)]) :
      Reacts s (beginWait .feC36Ack { s with idx := i })
  | command23 (m : BitVec 2) (h : (s.seq, s.sub) ∈ [(Label.feC36Ack, Sub.rd)]) :
      Reacts s (sendCommand .feC23Tx fetchCode { s with matched := m })
  | ack23Wait (i : BitVec 6) (h : (s.seq, s.sub) ∈ [(Label.feC23Tx, Sub.wr)]) :
      Reacts s (beginWait .feC23Ack { s with idx := i })
  | firstFrame (m : BitVec 2) (h : (s.seq, s.sub) ∈ [(Label.feC23Ack, Sub.rd)]) :
      Reacts s (beginWait .feSync { s with matched := m, tries := 1 })
  | seed (m : BitVec 2) (h : (s.seq, s.sub) ∈ [(Label.feSync, Sub.rd)]) :
      Reacts s (issueRead .feSeed (setRto 42 440 { s with matched := m }))
  | payload (c : Byte) (h : (s.seq, s.sub) ∈ [(Label.feSeed, Sub.rd)]) : Reacts s (issueRead .fePayload { s with ck := c })
  | trailing (r : Vector Byte 21) (c : Byte) (h : (s.seq, s.sub) ∈ [(Label.fePayload, Sub.rd)]) :
      Reacts s (issueRead .feTrail { s with rxb := r, ck := c })
  | frameAck (h : (s.seq, s.sub) ∈ [(Label.feTrail, Sub.rd)]) : Reacts s (issueWrite .feAckTx s)
  | fetched (h : (s.seq, s.sub) ∈ [(Label.feAckTx, Sub.wr)]) :
      Reacts s (returnOk { s with cst := decodeCst s.rxb, cstValid := true })
  | nextFrame (k : ErrKind) (hk : canReport .fetch k = true) (h : (s.seq, s.sub) ∈ feLoopStands)
      (ht : s.tries.toNat < 3) : Reacts s (beginWait .feSync { s with lastErr := k, tries := s.tries + 1 })
  | framesSpent (k : ErrKind) (hk : canReport .fetch k = true) (h : (s.seq, s.sub) ∈ feLoopStands) :
      Reacts s (returnErr k { s with lastErr := k })
  | commandFails (k : ErrKind) (hk : canReport .fetch k = true) (h : (s.seq, s.sub) ∈ feCommandStands) :
      Reacts s (returnErr k s)
  | cueAck (m : BitVec 2) (h : (s.seq, s.sub) ∈ [(Label.suCue, Sub.rd)]) :
      Reacts s (issueWrite .suCueAckTx { s with matched := m })
  | nextCue (k : ErrKind) (hk : canReport .setup k = true)
      (h : (s.seq, s.sub) ∈ [(Label.suCue, Sub.rd), (.suCueAckTx, .wr)]) (ht : s.tries.toNat < 3) :
      Reacts s (beginWait .suCue { s with lastErr := k, tries := s.tries + 1 })
  | settle (h : (s.seq, s.sub) ∈ [(Label.suCueAckTx, Sub.wr)]) : Reacts s (beginDelay .suSettle settleMs s)
  | firstWrite (h : (s.seq, s.sub) ∈ [(Label.suSettle, Sub.dly)]) :
      Reacts s (beginFrame .suWrTx { s with timer := 0, tries := 1 })
  | nextWrite (k : ErrKind) (hk : canReport .setup k = true)
      (h : (s.seq, s.sub) ∈ [(Label.suWrTx, Sub.wr), (.suWrAck, .rd)]) (ht : s.tries.toNat < 3) :
      Reacts s (beginFrame .suWrTx { s with lastErr := k, tries := s.tries + 1 })
  | setupSpent (k : ErrKind) (hk : canReport .setup k = true)
      (h : (s.seq, s.sub) ∈ [(Label.suCue, Sub.rd), (.suCueAckTx, .wr), (.suWrTx, .wr), (.suWrAck, .rd)]) :
      Reacts s (returnErr k { s with lastErr := k })
  | writeAckWait (i : BitVec 6) (h : (s.seq, s.sub) ∈ [(Label.suWrTx, Sub.wr)]) :
      Reacts s (beginWait .suWrAck { s with idx := i })
  | setUp (m : BitVec 2) (h : (s.seq, s.sub) ∈ [(Label.suWrAck, Sub.rd)]) : Reacts s (returnOk { s with matched := m })
  | pollPayload (m : BitVec 2) (h : (s.seq, s.sub) ∈ [(Label.poSync, Sub.rd)]) :
      Reacts s (issueRead .poPayload { s with matched := m })
  | pollAck (bs : List Byte) (hl : bs.length = 8) (hf : fold bs = 0x7F)
      (h : (s.seq, s.sub) ∈ [(Label.poPayload, Sub.rd)]) :
      Reacts s (issueWrite .poAckTx { s with rxb := storePoll bs s.rxb, ck := fold bs })
  | pollFails (k : ErrKind) (r : Vector Byte 21) (c : Byte) (hk : canReport .poll k = true)
      (h : (s.seq, s.sub) ∈ poStands) : Reacts s (returnErr k { s with rxb := r, ck := c })
  | polled (e : EventRec) (hd : decodeEvent s.params s.rxb[4] s.rxb[5] s.rxb[6] = some e)
      (h : (s.seq, s.sub) ∈ [(Label.poAckTx, Sub.wr)]) :
      Reacts s (returnOk { s with mot := decodeMotion s.rxb, evt := e, pollValid := true })

/-- What holds at every wait-point of a list holds at the one the sequencer stands at. -/
theorem of_stands (P : Label → Sub → Bool) {l : Label} {u : Sub} {stands : List (Label × Sub)} (h : (l, u) ∈ stands)
    (hP : stands.all (fun p => P p.1 p.2) = true) : P l u = true :=
  List.all_eq_true.mp hP _ h

/-! ### Where each label goes on: one equation per label (R130) -/

theorem afterWait_hsProbe {s : State} (hq : s.seq = .hsProbe) (v : Verdict) : afterWait v s = hsAfterProbe v s := by
  simp only [afterWait, hq]

theorem afterWait_hsRstAck {s : State} (hq : s.seq = .hsRstAck) (v : Verdict) : afterWait v s = hsAfterAck v s := by
  simp only [afterWait, hq]

theorem afterWait_hsSync {s : State} (hq : s.seq = .hsSync) (v : Verdict) : afterWait v s = hsAfterSync v s := by
  simp only [afterWait, hq]

theorem afterWait_feC36Ack {s : State} (hq : s.seq = .feC36Ack) (v : Verdict) : afterWait v s = feAfterAck36 v s := by
  simp only [afterWait, hq]

theorem afterWait_feC23Ack {s : State} (hq : s.seq = .feC23Ack) (v : Verdict) : afterWait v s = feAfterAck23 v s := by
  simp only [afterWait, hq]

theorem afterWait_feSync {s : State} (hq : s.seq = .feSync) (v : Verdict) : afterWait v s = feAfterSync v s := by
  simp only [afterWait, hq]

theorem afterWait_suCue {s : State} (hq : s.seq = .suCue) (v : Verdict) : afterWait v s = suAfterCue v s := by
  simp only [afterWait, hq]

theorem afterWait_suWrAck {s : State} (hq : s.seq = .suWrAck) (v : Verdict) : afterWait v s = suAfterWriteAck v s := by
  simp only [afterWait, hq]

theorem afterWait_poSync {s : State} (hq : s.seq = .poSync) (v : Verdict) : afterWait v s = poAfterSync v s := by
  simp only [afterWait, hq]

theorem afterFrame_hsRstTx {s : State} (hq : s.seq = .hsRstTx) (v : Verdict) : afterFrame v s = hsAfterSend v s := by
  simp only [afterFrame, hq]

theorem afterFrame_feC36Tx {s : State} (hq : s.seq = .feC36Tx) (v : Verdict) : afterFrame v s = feAfterSend36 v s := by
  simp only [afterFrame, hq]

theorem afterFrame_feC23Tx {s : State} (hq : s.seq = .feC23Tx) (v : Verdict) : afterFrame v s = feAfterSend23 v s := by
  simp only [afterFrame, hq]

theorem afterFrame_suWrTx {s : State} (hq : s.seq = .suWrTx) (v : Verdict) : afterFrame v s = suAfterWrite v s := by
  simp only [afterFrame, hq]

theorem afterByte_hsNudge {s : State} (hq : s.seq = .hsNudge) (v : Verdict) : afterByte v s = hsAfterNudge s := by
  simp only [afterByte, hq]

theorem afterByte_feAckTx {s : State} (hq : s.seq = .feAckTx) (v : Verdict) : afterByte v s = feAfterAck v s := by
  simp only [afterByte, hq]

theorem afterByte_suCueAckTx {s : State} (hq : s.seq = .suCueAckTx) (v : Verdict) : afterByte v s = suAfterCueAck v s := by
  simp only [afterByte, hq]

theorem afterByte_poAckTx {s : State} (hq : s.seq = .poAckTx) (v : Verdict) : afterByte v s = poAfterAck v s := by
  simp only [afterByte, hq]

/-! ### The bounded attempt loops (R141) -/

theorem attemptLoop_reacts {s u : State} {attempt exhausted : State → State}
    (hnext : u.tries.toNat < 3 → Reacts s (attempt { u with tries := u.tries + 1 })) (hspent : Reacts s (exhausted u)) :
    Reacts s (attemptLoop attempt exhausted u) := by
  by_cases ht : u.tries.toNat < 3
  · rw [attemptLoop_next _ _ _ ht]
    exact hnext ht
  · rw [attemptLoop_spent _ _ _ ht]
    exact hspent

theorem hsResetLoop_reacts {s : State} (h : (s.seq, s.sub) ∈ [(Label.hsRstTx, Sub.wr), (.hsRstAck, .rd)]) :
    Reacts s (hsResetLoop s) :=
  attemptLoop_reacts (.nextReset h) (.step3 s.matched h)

theorem feLoop_reacts {s : State} {k : ErrKind} (hk : canReport .fetch k = true) (h : (s.seq, s.sub) ∈ feLoopStands) :
    Reacts s (feLoop (raiseErr k s)) :=
  attemptLoop_reacts (.nextFrame k hk h) (.framesSpent k hk h)

theorem suCueLoop_reacts {s : State} {k : ErrKind} (hk : canReport .setup k = true)
    (h : (s.seq, s.sub) ∈ [(Label.suCue, Sub.rd), (.suCueAckTx, .wr)]) : Reacts s (suCueLoop (raiseErr k s)) :=
  attemptLoop_reacts (.nextCue k hk h) (.setupSpent k hk (List.mem_append_left [(Label.suWrTx, Sub.wr), (.suWrAck, .rd)] h))

theorem suWriteLoop_reacts {s : State} {k : ErrKind} (hk : canReport .setup k = true)
    (h : (s.seq, s.sub) ∈ [(Label.suWrTx, Sub.wr), (.suWrAck, .rd)]) : Reacts s (suWriteLoop (raiseErr k s)) :=
  attemptLoop_reacts (.nextWrite k hk h) (.setupSpent k hk (List.mem_append_right [(Label.suCue, Sub.rd), (.suCueAckTx, .wr)] h))

/-- A fresh loop makes its first attempt. -/
theorem attemptLoop_first (attempt exhausted : State → State) (s : State) :
    attemptLoop attempt exhausted { s with tries := 0 } = attempt { s with tries := 1 } :=
  attemptLoop_next _ _ _ (Nat.zero_lt_succ 2)

/-! ### Waits (R136) -/

theorem afterWait_ok_reacts {s : State} (hu : s.sub = .rd) (ha : awaited s.seq ≠ []) (m : BitVec 2) :
    Reacts s (afterWait .ok { s with matched := m }) := by
  unfold afterWait
  cases hq : s.seq <;> simp only [hq, awaited, ne_eq, not_true_eq_false] at ha ⊢
  case hsProbe => exact .synced m (by simp [hq, hu])
  case hsRstAck => exact .step3 m (by simp [hq, hu])
  case hsSync => exact .synced m (by simp [hq, hu])
  case feC36Ack => exact .command23 m (by simp [hq, hu])
  case feC23Ack =>
    rw [feAfterAck23, feLoop, attemptLoop_first]
    exact .firstFrame m (by simp [hq, hu])
  case feSync => exact .seed m (by simp [hq, hu])
  case suCue => exact .cueAck m (by simp [hq, hu])
  case suWrAck => exact .setUp m (by simp [hq, hu])
  case poSync => exact .pollPayload m (by simp [hq, hu])

/-- A failed wait: only a sequence longer than one byte can end as a violation (R136). -/
theorem afterWait_err_reacts {s : State} {k : ErrKind} (hu : s.sub = .rd) (ha : awaited s.seq ≠ [])
    (hk : k = .timeout ∨ k = .protocolViolation ∧ 1 < (awaited s.seq).length) : Reacts s (afterWait (.err k) s) := by
  unfold afterWait
  cases hq : s.seq <;> simp only [hq, awaited, ne_eq, not_true_eq_false] at ha hk ⊢
  case hsProbe =>
    rw [hsAfterProbe, hsResetLoop, attemptLoop_first]
    exact .firstReset (by simp [hq, hu])
  case hsRstAck => exact hsResetLoop_reacts (by simp [hq, hu])
  case hsSync => exact .nudge (by simp [hq, hu])
  case feC36Ack =>
    obtain rfl : k = .timeout := by simpa using hk
    exact .commandFails _ rfl (by simp [feCommandStands, hq, hu])
  case feC23Ack =>
    obtain rfl : k = .timeout := by simpa using hk
    exact .commandFails _ rfl (by simp [feCommandStands, hq, hu])
  case feSync => exact feLoop_reacts rfl (by simp [feLoopStands, hq, hu])
  case suCue => exact suCueLoop_reacts (by rcases hk with rfl | ⟨rfl, -⟩ <;> rfl) (by simp [hq, hu])
  case suWrAck => exact suWriteLoop_reacts rfl (by simp [hq, hu])
  case poSync => exact .pollFails .timeout s.rxb s.ck rfl (by simp [poStands, hq, hu])

/-- One answered read of a wait goes on with the wait or hands it back to the operation (R136). -/
theorem waitAnswer_reacts {s : State} (hu : s.sub = .rd) (ha : awaited s.seq ≠ []) (r : Option Byte) :
    Reacts s (goOn afterWait (waitAnswer r s)) := by
  cases r with
  | none => exact afterWait_err_reacts hu ha (.inl rfl)
  | some b =>
    by_cases h : (awaited s.seq)[s.matched.toNat]? = some b
    · by_cases hl : (s.matched + 1).toNat = (awaited s.seq).length
      · rw [waitAnswer_last s b h hl]
        exact afterWait_ok_reacts hu ha _
      · rw [waitAnswer_next s b h hl]
        exact .fits b hu h hl
    · by_cases hs : s.skip = s.params.waitSkipMax
      · by_cases hm : 1 < (awaited s.seq).length ∧ 1 ≤ s.matched.toNat
        · rw [waitAnswer_violation s b h hs hm]
          exact afterWait_err_reacts hu ha (.inr ⟨rfl, hm.1⟩)
        · rw [waitAnswer_timeout s b h hs hm]
          exact afterWait_err_reacts hu ha (.inl rfl)
      · rw [waitAnswer_skip s b h hs]
        exact .skips b hu ha h hs

theorem afterWait_not_waiting {s : State} (h : awaited s.seq = []) (v : Verdict) : afterWait v s = s := by
  unfold afterWait
  revert h
  cases s.seq <;> simp [awaited, cueBytes]

/-- Where the operation has no line, the answer to a one-byte read changes nothing but the counters of the wait
(notes/assumptions/19.md). -/
theorem waitAnswer_ignored {s : State} (hu : s.sub = .rd) (h : subAllowed s.seq s.sub = false) (ha : awaited s.seq = [])
    (r : Option Byte) : Reacts s (goOn afterWait (waitAnswer r s)) := by
  have hstay : Reacts s (afterWait (.err .timeout) s) := by
    rw [afterWait_not_waiting ha]
    exact .ignores h
  cases r with
  | none => exact hstay
  | some b =>
    have hb : (awaited s.seq)[s.matched.toNat]? ≠ some b := by simp [ha]
    by_cases hs : s.skip = s.params.waitSkipMax
    · rw [waitAnswer_timeout s b hb hs (by simp [ha])]
      exact hstay
    · rw [waitAnswer_skip s b hb hs]
      exact .ignoresByte _ _ hu h

/-! ### Answers: one equation per kind of place -/

/-- The labels at which a body is read, with no skipping (R133). -/
def readsBody (l : Label) : Bool := [Label.feSeed, .fePayload, .feTrail, .poPayload].contains l

theorem answerRead_seed {s : State} (hq : s.seq = .feSeed) (r : Option (List Byte)) : answerRead r s = feAfterSeed r s := by
  simp only [answerRead, hq]

theorem answerRead_payload {s : State} (hq : s.seq = .fePayload) (r : Option (List Byte)) :
    answerRead r s = feAfterPayload r s := by
  simp only [answerRead, hq]

theorem answerRead_trail {s : State} (hq : s.seq = .feTrail) (r : Option (List Byte)) :
    answerRead r s = feAfterTrail r s := by
  simp only [answerRead, hq]

theorem answerRead_poll {s : State} (hq : s.seq = .poPayload) (r : Option (List Byte)) :
    answerRead r s = poAfterPayload r s := by
  simp only [answerRead, hq]

theorem answerRead_wait {s : State} (h : readsBody s.seq = false) (r : Option (List Byte)) :
    answerRead r s = goOn afterWait (waitAnswer (r.map fun bs => bs.headD 0) s) := by
  unfold answerRead
  split <;> rename_i hq
  · rw [hq] at h; cases h
  · rw [hq] at h; cases h
  · rw [hq] at h; cases h
  · rw [hq] at h; cases h
  · rfl

theorem answerWrite_byte {s : State} (h : sendsFrame s.seq = false) (ok : Bool) :
    answerWrite ok s = afterByte (byteAnswer ok) s := by
  rw [answerWrite, h]
  rfl

theorem endDelay_settle {s : State} (hq : s.seq = .suSettle) : endDelay s = suAfterSettle { s with timer := 0 } := by
  simp only [endDelay, hq]

theorem endDelay_of_ne {s : State} (hq : s.seq ≠ .suSettle) : endDelay s = issueWrite s.seq { s with timer := 0 } := by
  unfold endDelay
  split
  · exact absurd ‹_› hq
  · rfl

theorem readsBody_cases {l : Label} (h : readsBody l = true) :
    l = .feSeed ∨ l = .fePayload ∨ l = .feTrail ∨ l = .poPayload := by
  simpa [readsBody] using h

theorem bodyRead_reacts {s : State} {r : Option (List Byte)} (hu : s.sub = .rd) (hb : readsBody s.seq = true)
    (hr : ∀ bs, r = some bs → bs.length = readLen s.seq) : Reacts s (answerRead r s) := by
  rcases readsBody_cases hb with hq | hq | hq | hq
  · rw [answerRead_seed hq]
    cases r with
    | none => exact feLoop_reacts rfl (by simp [feLoopStands, hq, hu])
    | some bs => exact .payload _ (by simp [hq, hu])
  · rw [answerRead_payload hq]
    cases r with
    | none => exact feLoop_reacts rfl (by simp [feLoopStands, hq, hu])
    | some bs => exact .trailing _ _ (by simp [hq, hu])
  · rw [answerRead_trail hq]
    cases r with
    | none => exact feLoop_reacts rfl (by simp [feLoopStands, hq, hu])
    | some bs =>
      by_cases hc : ckCheck s.ck (bs.headD 0) = true
      · rw [feAfterTrail_valid s bs hc]
        exact .frameAck (by simp [hq, hu])
      · rw [feAfterTrail_invalid s bs hc]
        exact feLoop_reacts rfl (by simp [feLoopStands, hq, hu])
  · rw [answerRead_poll hq]
    cases r with
    | none => exact .pollFails .shortTransfer s.rxb s.ck rfl (by simp [poStands, hq, hu])
    | some bs =>
      by_cases hc : fold bs = 0x7F
      · rw [poAfterPayload_valid s bs hc]
        exact .pollAck bs (by rw [hr bs rfl, hq]; rfl) hc (by simp [hq, hu])
      · rw [poAfterPayload_invalid s bs hc]
        exact .pollFails .checksumMismatch _ _ rfl (by simp [poStands, hq, hu])

/-- The answer to a read is one line of the pseudocode (R45, R130). -/
theorem answerRead_reacts {s : State} {r : Option (List Byte)} (hu : s.sub = .rd)
    (hr : ∀ bs, r = some bs → bs.length = readLen s.seq) : Reacts s (answerRead r s) := by
  by_cases hb : readsBody s.seq = true
  · exact bodyRead_reacts hu hb hr
  · rw [Bool.not_eq_true] at hb
    rw [answerRead_wait hb]
    by_cases ha : awaited s.seq = []
    · refine waitAnswer_ignored hu ?_ ha _
      rw [hu]
      revert ha hb
      cases s.seq <;> decide
    · exact waitAnswer_reacts hu ha _

/-- The labels of multi-byte transmissions (R11, R132). -/
theorem sendsFrame_cases {l : Label} (h : sendsFrame l = true) : l = .hsRstTx ∨ l = .feC36Tx ∨ l = .feC23Tx ∨ l = .suWrTx := by
  simpa [sendsFrame, sendsCommand, or_assoc] using h

/-- A transmission hands back to its operation (R132). -/
theorem afterFrame_ok_reacts {s : State} (hu : s.sub = .wr) (hf : sendsFrame s.seq = true) (i : BitVec 6) :
    Reacts s (afterFrame .ok { s with idx := i }) := by
  rcases sendsFrame_cases hf with hq | hq | hq | hq
  · rw [afterFrame_hsRstTx (by exact hq)]
    exact .rstAckWait i (by simp [hq, hu])
  · rw [afterFrame_feC36Tx (by exact hq)]
    exact .ack36Wait i (by simp [hq, hu])
  · rw [afterFrame_feC23Tx (by exact hq)]
    exact .ack23Wait i (by simp [hq, hu])
  · rw [afterFrame_suWrTx (by exact hq)]
    exact .writeAckWait i (by simp [hq, hu])

theorem afterFrame_err_reacts {s : State} (hu : s.sub = .wr) (hf : sendsFrame s.seq = true) :
    Reacts s (afterFrame (.err .shortTransfer) s) := by
  rcases sendsFrame_cases hf with hq | hq | hq | hq
  · rw [afterFrame_hsRstTx hq]
    exact hsResetLoop_reacts (by simp [hq, hu])
  · rw [afterFrame_feC36Tx hq]
    exact .commandFails _ rfl (by simp [feCommandStands, hq, hu])
  · rw [afterFrame_feC23Tx hq]
    exact .commandFails _ rfl (by simp [feCommandStands, hq, hu])
  · rw [afterFrame_suWrTx hq]
    exact suWriteLoop_reacts rfl (by simp [hq, hu])

/-- A single acknowledge hands back to its operation (R131). -/
theorem afterByte_reacts {s : State} (hu : s.sub = .wr) (hf : sendsFrame s.seq = false) (ok : Bool) :
    Reacts s (afterByte (byteAnswer ok) s) := by
  by_cases ha : sendsAck s.seq = true
  · have hq : s.seq = .hsNudge ∨ s.seq = .feAckTx ∨ s.seq = .suCueAckTx ∨ s.seq = .poAckTx := by
      simpa [sendsAck, or_assoc] using ha
    unfold afterByte
    rcases hq with hq | hq | hq | hq <;> simp only [hq]
    · unfold hsAfterNudge
      split
      · exact .nextPass (by simp [hq, hu]) ‹_›
      · unfold hsFailed
        split
        · exact .tornDown (by simp [hq, hu]) ‹_›
        · exact .hsFails (by simp [hq, hu]) ‹_›
    · cases ok with
      | true => exact .fetched (by simp [hq, hu])
      | false => exact feLoop_reacts rfl (by simp [feLoopStands, hq, hu])
    · cases ok with
      | true => exact .settle (by simp [hq, hu])
      | false => exact suCueLoop_reacts rfl (by simp [hq, hu])
    · cases ok with
      | true =>
        show Reacts s (pollFinish (decodeEvent s.params s.rxb[4] s.rxb[5] s.rxb[6]) s)
        cases hd : decodeEvent s.params s.rxb[4] s.rxb[5] s.rxb[6] with
        | some e => exact .polled e hd (by simp [hq, hu])
        | none => exact .pollFails .protocolViolation s.rxb s.ck rfl (by simp [poStands, hq, hu])
      | false => exact .pollFails .shortTransfer s.rxb s.ck rfl (by simp [poStands, hq, hu])
  · have hn : subAllowed s.seq s.sub = false := by
      revert ha hf
      rw [hu]
      cases s.seq <;> decide
    unfold afterByte
    split <;> rename_i hq
    · exact absurd (by rw [hq]; rfl) ha
    · exact absurd (by rw [hq]; rfl) ha
    · exact absurd (by rw [hq]; rfl) ha
    · exact absurd (by rw [hq]; rfl) ha
    · exact .ignores hn

/-- The answer to a write is one line of the pseudocode (R46, R130). -/
theorem answerWrite_reacts {s : State} (hu : s.sub = .wr) (ok : Bool) : Reacts s (answerWrite ok s) := by
  by_cases hf : sendsFrame s.seq = true
  · cases ok with
    | false =>
      rw [answerWrite_refused s hf]
      exact afterFrame_err_reacts hu hf
    | true =>
      by_cases hl : (s.idx + 1).toNat = (outFrame s).length
      · rw [answerWrite_last s hf hl]
        exact afterFrame_ok_reacts hu hf _
      · rw [answerWrite_gap s hf hl]
        exact .gap hu hf hl
  · rw [Bool.not_eq_true] at hf
    rw [answerWrite_byte hf]
    exact afterByte_reacts hu hf ok

/-- The end of a delay is one line of the pseudocode (R130, R134). -/
theorem endDelay_reacts {s : State} (hu : s.sub = .dly) : Reacts s (endDelay s) := by
  by_cases hq : s.seq = .suSettle
  · rw [endDelay_settle hq, suAfterSettle, suWriteLoop, attemptLoop_first]
    exact .firstWrite (by simp [hq, hu])
  · rw [endDelay_of_ne hq]
    exact .nextByte hu hq

end Sys2Proof.Machine
end

section
/-! Starts (spec/41_primitives.md R139), and the one induction of the invariants: what every line of the pseudocode and every
start keeps, every step keeps. -/

namespace Sys2Proof.Machine

/-- What an accepted start makes of an idle state: the accepting writes and the operation's first request (R139). -/
inductive Starts (s : State) : State → Prop where
  | handshake (o : Op) (ho : o = .handshake ∨ o = .teardown) : Starts s (hsBegin (accept o s))
  | fetch : Starts s (feBegin (accept .fetch s))
  | setup : Starts s (beginWait .suCue { suEncode (accept .setup s) with tries := 1 })
  | poll : Starts s (poBegin (accept .poll s))

theorem suBegin_eq (s : State) : suBegin s = beginWait .suCue { suEncode s with tries := 1 } :=
  attemptLoop_first (beginWait .suCue) (fun t => returnErr t.lastErr t) (suEncode s)

/-- An invariant is kept by the machine when it does not look at the surroundings and starts, lines of the pseudocode, ticks inside
a delay, client writes and reset keep it. -/
theorem Keeps.of_reacts {P : State → Prop} (henv : ∀ s held inbox, P s → P { s with held := held, inbox := inbox })
    (hstart : ∀ s t, s.busy = false → Starts s t → P s → P t) (hreact : ∀ s t, Reacts s t → P s → P t)
    (hcount : ∀ s, s.sub = .dly → 1 < s.timer → P s → P { s with timer := s.timer - 1 })
    (hclient : ∀ s w, P s → P (clientWrite w s)) (hreset : ∀ s, P s → P (resetInput s)) : Keeps P where
  environment := henv
  handshake s hb := hstart s _ hb (.handshake .handshake (.inl rfl))
  teardown s hb := hstart s _ hb (.handshake .teardown (.inr rfl))
  fetch s hb := hstart s _ hb .fetch
  setup s hb := hstart s _ hb (suBegin_eq (accept .setup s) ▸ .setup)
  poll s hb := hstart s _ hb .poll
  read s _ hu hr := hreact s _ (answerRead_reacts hu hr)
  write s ok hu := hreact s _ (answerWrite_reacts hu ok)
  delayEnds s hu := hreact s _ (endDelay_reacts hu)
  delayCounts := hcount
  client := hclient
  reset := hreset

/-! ### Where the sequencer stands (R11, R13) -/

/-- The two labels belong to the same operation in the table of R11. -/
def sameOperation (l l' : Label) : Bool :=
  hsLabel l == hsLabel l' && feLabel l == feLabel l' && suLabel l == suLabel l' && poLabel l == poLabel l'

theorem runs_of_sameOperation {l l' : Label} (h : sameOperation l l' = true) (o : Op) : runs o l = runs o l' := by
  simp only [sameOperation, Bool.and_eq_true, beq_iff_eq] at h
  obtain ⟨⟨⟨hhs, hfe⟩, hsu⟩, hpo⟩ := h
  cases o <;> simp [runs, hhs, hfe, hsu, hpo]

/-- The sequencer goes on from one wait-point to another of the same operation. -/
def goesOn (l : Label) (u : Sub) (l' : Label) (u' : Sub) : Bool :=
  !subAllowed l u || (subAllowed l' u' && sameOperation l l' && l' != .idle)

/-- A delay that is not the settle delay stands at a transmission, and a byte follows it. -/
theorem goesOn_nextByte : ∀ l : Label, l ≠ .suSettle → goesOn l .dly l .wr = true := by
  intro l
  cases l <;> decide

theorem goesOn_gap : ∀ l : Label, sendsFrame l = true → goesOn l .wr l .dly = true := by
  intro l
  cases l <;> decide

theorem goesOn_read : ∀ l : Label, goesOn l .rd l .rd = true := by
  intro l
  cases l <;> decide

/-- A line of the pseudocode returns, or goes on with the same operation. -/
theorem Reacts.returns_or_goesOn {s t : State} (h : Reacts s t) :
    (t.seq = .idle ∧ t.sub = .none ∧ t.busy = false) ∨
      (t.busy = s.busy ∧ t.op = s.op ∧ goesOn s.seq s.sub t.seq t.sub = true) := by
  have hjunk : ∀ l' u', subAllowed s.seq s.sub = false → goesOn s.seq s.sub l' u' = true := by
    intro l' u' hs
    simp [goesOn, hs]
  cases h with
  | synced | fetched | framesSpent | commandFails | setupSpent | setUp | pollFails | polled | hsFails |
      tornDown => exact .inl ⟨rfl, rfl, rfl⟩
  | ignores h => exact .inr ⟨rfl, rfl, hjunk _ _ h⟩
  | ignoresByte m k hu h => exact .inr ⟨rfl, rfl, hjunk _ _ h⟩
  | nextByte hu hq => exact .inr ⟨rfl, rfl, hu ▸ goesOn_nextByte _ hq⟩
  | gap hu hf => exact .inr ⟨rfl, rfl, hu ▸ goesOn_gap _ hf⟩
  | fits b hu => exact .inr ⟨rfl, rfl, hu ▸ goesOn_read _⟩
  | skips b hu => exact .inr ⟨rfl, rfl, hu ▸ goesOn_read _⟩
  | _ => exact .inr ⟨rfl, rfl, of_stands (goesOn · · _ _) ‹_› rfl⟩

/-- A line of the pseudocode leaves the sequencer where the table of R11 lets it stand. -/
theorem Reacts.stands {s t : State} (h : Reacts s t) (hs : StandsInv s) : StandsInv t := by
  obtain ⟨hbusy, hsub, hruns⟩ := hs
  rcases h.returns_or_goesOn with ⟨hq, hu, hb⟩ | ⟨hb, ho, hgo⟩
  · exact ⟨by simp [hq, hb], by rw [hq, hu]; rfl, fun hne => absurd hq hne⟩
  · simp only [goesOn, hsub, Bool.not_true, Bool.false_or, Bool.and_eq_true, bne_iff_ne] at hgo
    obtain ⟨⟨hsub', hsame⟩, hne⟩ := hgo
    have hsne : s.seq ≠ .idle := by
      intro hidle
      rw [hidle] at hsame
      revert hsame hne
      cases t.seq <;> decide
    refine ⟨?_, hsub', fun _ => ?_⟩
    · rw [hb, hbusy]
      exact iff_of_false hsne hne
    · rw [ho, ← runs_of_sameOperation hsame]
      exact hruns hsne

/-- A started operation stands at its own first wait-point. -/
theorem Starts.stands {s t : State} (h : Starts s t) : StandsInv t := by
  have hat : ∀ u : State, u.busy = true → u.seq ≠ .idle → subAllowed u.seq u.sub = true → runs u.op u.seq = true →
      StandsInv u := fun u hb hq hu hr => ⟨iff_of_false (by simp [hb]) hq, hu, fun _ => hr⟩
  cases h with
  | handshake o ho => rcases ho with rfl | rfl <;> exact hat _ rfl (by simp [hsBegin, hsPass]) rfl rfl
  | fetch => exact hat _ rfl (by simp [feBegin]) rfl rfl
  | setup => exact hat _ rfl (by simp) rfl rfl
  | poll => exact hat _ rfl (by simp [poBegin]) rfl rfl

theorem standsInv_resetInput (s : State) : StandsInv (resetInput s) :=
  ⟨iff_of_true rfl rfl, rfl, fun h => absurd rfl h⟩

theorem keeps_standsInv : Keeps StandsInv :=
  .of_reacts (fun _ _ _ h => h) (fun _ _ _ h _ => h.stands) (fun _ _ h => h.stands) (fun _ _ _ h => h) (fun _ _ h => h)
    fun s _ => standsInv_resetInput s

/-- Settles O44: every line of the pseudocode goes on at a wait-point of the same operation, or returns to IDLE. -/
theorem everyStepKeepsStands : Obligations.EveryStepKeepsStands := by
  unfold Obligations.EveryStepKeepsStands
  exact keeps_standsInv.step

/-- An invariant of the machines that stand at wait-points. -/
theorem Keeps.of_standing {P : State → Prop} (henv : ∀ s held inbox, P s → P { s with held := held, inbox := inbox })
    (hstart : ∀ s t, s.busy = false → StandsInv s → Starts s t → P s → P t)
    (hreact : ∀ s t, StandsInv s → Reacts s t → P s → P t)
    (hcount : ∀ s, s.sub = .dly → 1 < s.timer → P s → P { s with timer := s.timer - 1 })
    (hclient : ∀ s w, P s → P (clientWrite w s)) (hreset : ∀ s, P s → P (resetInput s)) :
    Keeps fun s => StandsInv s ∧ P s :=
  .of_reacts (fun s h i hp => ⟨hp.1, henv s h i hp.2⟩) (fun s t hb h hp => ⟨h.stands, hstart s t hb hp.1 h hp.2⟩)
    (fun s t h hp => ⟨h.stands hp.1, hreact s t hp.1 h hp.2⟩) (fun s hu ht hp => ⟨hp.1, hcount s hu ht hp.2⟩)
    (fun s w hp => ⟨hp.1, hclient s w hp.2⟩) fun s hp => ⟨standsInv_resetInput s, hreset s hp.2⟩

theorem StandsInv.idle_of_not_busy {s : State} (hs : StandsInv s) (hb : s.busy = false) : s.seq = .idle ∧ s.sub = .none := by
  obtain ⟨hbusy, hsub, -⟩ := hs
  have hq := hbusy.mp hb
  rw [hq] at hsub
  exact ⟨hq, by simpa [subAllowed] using hsub⟩

/-! ### The counters (R14, R141) -/

theorem outFrame_length_le (s : State) : (outFrame s).length ≤ 34 := by
  rw [outFrame_length]
  split <;> decide

theorem outFrame_pos (s : State) : 0 < (outFrame s).length := by
  rw [outFrame_length]
  split <;> decide

theorem idx_succ {s : State} (h : s.idx.toNat < (outFrame s).length) : (s.idx + 1).toNat = s.idx.toNat + 1 := by
  have := outFrame_length_le s
  rw [BitVec.toNat_add]
  simp
  omega

theorem matched_succ {m : BitVec 2} {n : Nat} (h : m.toNat < n) (hn : n ≤ 3) : (m + 1).toNat = m.toNat + 1 := by
  rw [BitVec.toNat_add]
  simp
  omega

theorem awaited_length_le (l : Label) : (awaited l).length ≤ 3 := by
  cases l <;> decide

theorem skip_succ {k n : BitVec 16} (h : k ≤ n) (hn : k ≠ n) : (k + 1).toNat = k.toNat + 1 := by
  have hlt : k.toNat < n.toNat := lt_of_le_of_ne h fun he => hn (BitVec.eq_of_toNat_eq he)
  rw [BitVec.toNat_add]
  simp
  omega

/-- A skipped byte counts as a first byte only where the awaited sequence is longer than what had matched. -/
theorem restart_lt {l : List Byte} {m : BitVec 2} {b : Byte} (hm : m.toNat < l.length) (hb : l[m.toNat]? ≠ some b) :
    (if l.head? = some b then 1 else 0 : BitVec 2).toNat < l.length := by
  by_cases hh : l.head? = some b
  · rw [if_pos hh]
    by_contra hle
    have hm0 : m.toNat = 0 := by
      simp at hle
      omega
    rw [hm0] at hb
    exact hb (by rw [← hh, List.head?_eq_getElem?])
  · rw [if_neg hh]
    exact (Nat.zero_le _).trans_lt hm

theorem Reacts.idx_lt {s t : State} (h : Reacts s t) (hs : sendsFrame s.seq = true → s.idx.toNat < (outFrame s).length)
    (ht : sendsFrame t.seq = true) : t.idx.toNat < (outFrame t).length := by
  cases h with
  | ignores | ignoresByte | nextByte | fits | skips => exact hs ht
  | gap hu hf hl =>
    have hlt := hs hf
    have hs' := idx_succ hlt
    show (s.idx + 1).toNat < (outFrame s).length
    omega
  | firstReset | nextReset | command23 | firstWrite | nextWrite => exact outFrame_pos _
  | _ => cases ht

theorem Reacts.wait_counts {s t : State} (h : Reacts s t)
    (hs : awaited s.seq ≠ [] → s.matched.toNat < (awaited s.seq).length ∧ s.skip ≤ s.params.waitSkipMax)
    (ht : awaited t.seq ≠ []) : t.matched.toNat < (awaited t.seq).length ∧ t.skip ≤ t.params.waitSkipMax := by
  cases h with
  | ignores | nextByte | gap => exact hs ht
  | ignoresByte m k hu h =>
    rw [hu] at h
    revert h ht
    show subAllowed s.seq .rd = false → awaited s.seq ≠ [] → _
    cases s.seq <;> simp [subAllowed, awaited, sendsFrame, sendsCommand, sendsAck]
  | fits b hu h hl =>
    obtain ⟨hm, hk⟩ := hs ht
    have hm' := matched_succ hm (awaited_length_le _)
    refine ⟨?_, hk⟩
    show (s.matched + 1).toNat < (awaited s.seq).length
    omega
  | skips b hu ha h hk =>
    obtain ⟨hm, hle⟩ := hs ha
    have hk' := skip_succ hle hk
    refine ⟨restart_lt hm h, ?_⟩
    show (s.skip + 1).toNat ≤ s.params.waitSkipMax.toNat
    have hlt : s.skip.toNat < s.params.waitSkipMax.toNat := lt_of_le_of_ne hle fun he => hk (BitVec.eq_of_toNat_eq he)
    omega
  | step3 | nextPass | rstAckWait | ack36Wait | ack23Wait | firstFrame | nextFrame | nextCue | writeAckWait =>
    exact ⟨List.length_pos_of_ne_nil ht, Nat.zero_le _⟩
  | _ => exact absurd rfl ht

theorem Reacts.pass_lt {s t : State} (h : Reacts s t) (hs : hsLabel s.seq = true → s.pass < passesOf s.params)
    (ht : hsLabel t.seq = true) : t.pass < passesOf t.params := by
  cases h with
  | ignores | ignoresByte | nextByte | gap | fits | skips => exact hs ht
  | firstReset h | nextReset h | rstAckWait _ h | step3 _ h | nudge h => exact hs (of_stands (fun l _ => hsLabel l) h rfl)
  | nextPass _ hp => exact hp
  | _ => cases ht

theorem passesOf_pos (p : Params) : 0 < passesOf p := by
  unfold passesOf
  split
  · decide
  · bv_omega

theorem Starts.counts {s t : State} (h : Starts s t) : CountInv t := by
  cases h with
  | handshake o ho =>
    exact ⟨nofun, fun _ => ⟨by show 0 < 1; decide, Nat.zero_le _⟩, fun _ => passesOf_pos s.params⟩
  | fetch => exact ⟨fun _ => outFrame_pos _, fun h => absurd rfl h, nofun⟩
  | setup => exact ⟨nofun, fun _ => ⟨by show 0 < 3; decide, Nat.zero_le _⟩, nofun⟩
  | poll => exact ⟨nofun, fun _ => ⟨by show 0 < 1; decide, Nat.zero_le _⟩, nofun⟩

theorem Reacts.counts {s t : State} (h : Reacts s t) (hs : CountInv s) : CountInv t := by
  obtain ⟨hidx, hwait, hpass⟩ := hs
  exact ⟨h.idx_lt hidx, h.wait_counts hwait, h.pass_lt hpass⟩

theorem countInv_resetInput (s : State) : CountInv (resetInput s) :=
  ⟨nofun, fun h => absurd rfl h, nofun⟩

theorem keeps_countInv : Keeps fun s => StandsInv s ∧ CountInv s :=
  .of_standing (fun _ _ _ h => h) (fun _ _ _ _ h _ => h.counts) (fun _ _ _ h => h.counts) (fun _ _ _ h => h)
    (fun _ _ h => h) fun s _ => countInv_resetInput s

/-- Settles O45: every loop of the pseudocode moves its own counter, and stops at its bound. -/
theorem everyStepKeepsCounts : Obligations.EveryStepKeepsCounts := by
  unfold Obligations.EveryStepKeepsCounts
  exact fun s t hs hc h => (keeps_countInv.step s t ⟨hs, hc⟩ h).2

/-! ### The delay timer and the timeouts (R20, R21, R246, R276) -/

theorem timerInv_of_zero {s : State} (hu : s.sub ≠ .dly) (ht : s.timer = 0) : TimerInv s :=
  ⟨fun h => absurd h hu, fun _ => ht⟩

theorem Reacts.timer {s t : State} (h : Reacts s t) (hs : TimerInv s) : TimerInv t := by
  have hidle : s.sub = .rd ∨ s.sub = .wr → s.timer = 0 := by
    intro hu
    exact hs.2 (by rcases hu with hu | hu <;> simp [hu])
  cases h with
  | ignores => exact hs
  | gap hu hf =>
    have hd : delayMs s.seq = 42 := if_neg (by rintro hq; rw [hq] at hf; cases hf)
    refine ⟨fun _ => ?_, fun h => absurd rfl h⟩
    show 1 ≤ 42 ∧ 42 ≤ delayMs s.seq
    omega
  | settle => exact ⟨fun _ => by show 1 ≤ 28 ∧ 28 ≤ 28; decide, fun h => absurd rfl h⟩
  | nextByte | firstWrite => exact timerInv_of_zero (by simp) rfl
  | ignoresByte _ _ hu | fits _ hu | skips _ hu => exact timerInv_of_zero (by simp) (hidle (.inl hu))
  | _ =>
    refine timerInv_of_zero (by simp) (hidle ?_)
    simpa using of_stands (fun _ u => u == .rd || u == .wr) ‹_› rfl

/-- Every read is issued where its timeout pair is set, or is already. -/
theorem Reacts.timeouts {s t : State} (h : Reacts s t) (hs : TimeoutInv s) : TimeoutInv t := by
  obtain ⟨hrd, hwto⟩ := hs
  have hpair : ∀ {stands : List (Label × Sub)} {p : Half × Half}, (s.seq, s.sub) ∈ stands →
      (stands.all fun q => q.2 == .rd && readPair q.1 == p) = true → (s.rtoMult, s.rtoConst) = p := by
    intro stands p h hall
    have := of_stands (fun l u => u == .rd && readPair l == p) h hall
    simp only [Bool.and_eq_true, beq_iff_eq] at this
    rw [hrd this.1, this.2]
  cases h with
  | ignores => exact ⟨hrd, hwto⟩
  | ignoresByte _ _ hu | fits _ hu | skips _ hu => exact ⟨fun _ => hrd hu, hwto⟩
  | step3 | nextPass | rstAckWait | ack36Wait | ack23Wait | firstFrame | nextFrame | nextCue | writeAckWait | seed =>
    exact ⟨fun _ => rfl, hwto⟩
  | payload _ h => exact ⟨fun _ => hpair h rfl, hwto⟩
  | trailing _ _ h => exact ⟨fun _ => hpair h rfl, hwto⟩
  | pollPayload _ h => exact ⟨fun _ => hpair h rfl, hwto⟩
  | _ => exact ⟨nofun, hwto⟩

theorem Starts.timer {s t : State} (h : Starts s t) (ht : s.timer = 0) : TimerInv t := by
  cases h <;> exact timerInv_of_zero (by simp [hsBegin, hsPass, feBegin, poBegin]) ht

theorem Starts.timeouts {s t : State} (h : Starts s t) (hs : s.wtoMult = s.params.wtoMultInit) : TimeoutInv t := by
  cases h with
  | fetch => exact ⟨nofun, hs⟩
  | _ => exact ⟨fun _ => rfl, hs⟩

theorem keeps_timerInv : Keeps fun s => StandsInv s ∧ TimerInv s :=
  .of_standing (fun _ _ _ h => h)
    (fun s t hb hs h ht => h.timer (ht.2 (by rw [(hs.idle_of_not_busy hb).2]; decide)))
    (fun _ _ _ h => h.timer)
    (fun s hu h1 ht => by
      obtain ⟨-, hle⟩ := ht.1 hu
      have h1' : 1 < s.timer.toNat := h1
      have hsub : (s.timer - 1).toNat = s.timer.toNat - 1 := BitVec.toNat_sub_of_le (Nat.le_of_lt h1')
      refine ⟨fun _ => ?_, fun h => absurd hu h⟩
      show 1 ≤ (s.timer - 1).toNat ∧ (s.timer - 1).toNat ≤ delayMs s.seq
      omega)
    (fun _ _ h => h) fun _ _ => timerInv_of_zero (by simp [resetInput, State.resetWith]) rfl

theorem keeps_timeoutInv : Keeps fun s => StandsInv s ∧ TimeoutInv s :=
  .of_standing (fun _ _ _ h => h) (fun _ _ _ _ h ht => h.timeouts ht.2) (fun _ _ _ h => h.timeouts) (fun _ _ _ h => h)
    (fun _ _ h => h) fun _ _ => ⟨nofun, rfl⟩

/-- Settles O46: the timer by what begins and ends a delay, the timeout pairs by where each read is issued. -/
theorem everyStepKeepsTimerAndTimeouts : Obligations.EveryStepKeepsTimerAndTimeouts := by
  unfold Obligations.EveryStepKeepsTimerAndTimeouts
  exact fun s t hs ht hto h => ⟨(keeps_timerInv.step s t ⟨hs, ht⟩ h).2, (keeps_timeoutInv.step s t ⟨hs, hto⟩ h).2⟩

end Sys2Proof.Machine
end

section
/-! The invariants of the requests made, of what is sent, of RESULT and the output files, and of HS_STATE. -/

namespace Sys2Proof.Machine

/-! ### Requests (R11, R43, R47, R50) -/

/-- What a line of the pseudocode, or a start, asks of the outside: nothing where the operation returns, else one request or delay
at a wait-point, a new wait its read timeout first. -/
inductive Issues (s : State) : State → Prop where
  | nothing (t : State) (hu : t.sub = .none) (hr : t.requests = s.requests) (hp : t.params = s.params) : Issues s t
  | wait (l : Label) (u : State) (hr : u.requests = s.requests) (hp : u.params = s.params) : Issues s (beginWait l u)
  | setRead (l : Label) (u : State) (hr : u.requests = s.requests) (hp : u.params = s.params) :
      Issues s (issueRead l (setRto 42 440 u))
  | read (l : Label) (u : State) (hr : u.requests = s.requests) (hp : u.params = s.params) : Issues s (issueRead l u)
  | write (l : Label) (u : State) (hr : u.requests = s.requests) (hp : u.params = s.params) : Issues s (issueWrite l u)
  | delay (l : Label) (u : State) (hr : u.requests = s.requests) (hp : u.params = s.params) :
      Issues s (beginDelay l (delayMs l) u)

theorem delayMs_of_sendsFrame {l : Label} (h : sendsFrame l = true) : delayMs l = gapMs :=
  if_neg (by rintro rfl; cases h)

theorem Reacts.issues {s t : State} (h : Reacts s t) : t = s ∨ Issues s t := by
  cases h with
  | ignores => exact .inl rfl
  | synced | fetched | framesSpent | commandFails | setupSpent | setUp | pollFails | polled | hsFails | tornDown =>
    exact .inr (.nothing _ rfl rfl rfl)
  | step3 | nextPass | rstAckWait | ack36Wait | ack23Wait | firstFrame | nextFrame | nextCue | writeAckWait =>
    exact .inr (.wait _ _ rfl rfl)
  | seed => exact .inr (.setRead _ _ rfl rfl)
  | ignoresByte | fits | skips | payload | trailing | pollPayload => exact .inr (.read _ _ rfl rfl)
  | nextByte | firstReset | nextReset | nudge | command23 | frameAck | cueAck | firstWrite | nextWrite | pollAck =>
    exact .inr (.write _ _ rfl rfl)
  | gap hu hf => exact .inr (delayMs_of_sendsFrame hf ▸ .delay s.seq { s with idx := s.idx + 1 } rfl rfl)
  | settle => exact .inr (.delay .suSettle s rfl rfl)

theorem Starts.issues {s t : State} (h : Starts s t) : Issues s t := by
  cases h with
  | fetch => exact .write _ _ rfl rfl
  | _ => exact .wait _ _ rfl rfl

theorem Issues.outstanding {s t : State} (h : Issues s t) : OutstandingInv t := by
  cases h with
  | nothing t hu => exact fun h => absurd hu h
  | _ => exact fun _ => List.getLast?_concat

theorem allowedRequest_read (p : Params) (l : Label) : allowedRequest p (.read (readLen l)) = true := by
  cases l <;> rfl

theorem allowedRequest_wait (p : Params) (l : Label) : allowedRequest p (.setReadTimeout 0 (waitBound l)) = true := by
  cases l <;> rfl

theorem allowedRequest_delay (p : Params) (l : Label) : allowedRequest p (.delay (delayMs l)) = true := by
  cases l <;> rfl

theorem requestsInv_emit {s : State} {r : Request} (hs : RequestsInv s) (hr : allowedRequest s.params r = true) :
    RequestsInv (emit r s) := by
  simpa [RequestsInv, hr] using hs

theorem Issues.requestsAllowed {s t : State} (h : Issues s t) (hs : RequestsInv s) : RequestsInv t := by
  have hu : ∀ u : State, u.requests = s.requests → u.params = s.params → RequestsInv u := by
    intro u hr hp
    rw [RequestsInv, hr, hp]
    exact hs
  cases h with
  | nothing t _ hr hp => exact hu t hr hp
  | wait l u hr hp => exact requestsInv_emit (requestsInv_emit (hu u hr hp) (allowedRequest_wait _ l)) (allowedRequest_read _ l)
  | setRead l u hr hp => exact requestsInv_emit (requestsInv_emit (hu u hr hp) rfl) (allowedRequest_read _ l)
  | read l u hr hp => exact requestsInv_emit (hu u hr hp) (allowedRequest_read _ l)
  | write l u hr hp => exact requestsInv_emit (hu u hr hp) rfl
  | delay l u hr hp => exact requestsInv_emit (hu u hr hp) (allowedRequest_delay _ l)

theorem Issues.requests_prefix {s t : State} (h : Issues s t) : s.requests <+: t.requests := by
  cases h with
  | nothing t _ hr => exact hr ▸ List.prefix_refl _
  | wait l u hr => exact hr ▸ (List.prefix_append _ _).trans (List.prefix_append _ _)
  | setRead l u hr => exact hr ▸ (List.prefix_append _ _).trans (List.prefix_append _ _)
  | read l u hr => exact hr ▸ List.prefix_append _ _
  | write l u hr => exact hr ▸ List.prefix_append _ _
  | delay l u hr => exact hr ▸ List.prefix_append _ _

theorem Reacts.requestsAllowed {s t : State} (h : Reacts s t) (hs : RequestsInv s) : RequestsInv t := by
  rcases h.issues with rfl | h
  · exact hs
  · exact h.requestsAllowed hs

theorem Reacts.requests_prefix {s t : State} (h : Reacts s t) : s.requests <+: t.requests := by
  rcases h.issues with rfl | h
  · exact List.prefix_refl _
  · exact h.requests_prefix

theorem keeps_outstandingInv : Keeps OutstandingInv :=
  .of_reacts (fun _ _ _ h => h) (fun _ _ _ h _ => h.issues.outstanding)
    (fun _ _ h hs => h.issues.elim (fun he => he ▸ hs) Issues.outstanding) (fun _ _ _ h => h) (fun _ _ h => h)
    fun _ _ h => absurd rfl h

theorem keeps_requestsInv : Keeps RequestsInv :=
  .of_reacts (fun _ _ _ h => h) (fun _ _ _ h => h.issues.requestsAllowed) (fun _ _ h => h.requestsAllowed)
    (fun _ _ _ h => h) (fun _ _ h => h) fun s hs => by
      have hall : s.requests.all (allowedRequest s.params) = true := hs
      have hparams : (resetInput s).params = s.params := rfl
      rw [RequestsInv, hparams]
      simp [resetInput, hall, allowedRequest]

theorem keeps_requests_prefix (r : List Request) : Keeps fun s => r <+: s.requests :=
  .of_reacts (fun _ _ _ h => h) (fun _ _ _ h hr => hr.trans h.issues.requests_prefix)
    (fun _ _ h hr => hr.trans h.requests_prefix) (fun _ _ _ h => h) (fun _ _ h => h)
    fun _ hr => hr.trans (List.prefix_append _ _)

/-- Settles O47: whatever is issued is issued last. -/
theorem everyStepKeepsOneOutstanding : Obligations.EveryStepKeepsOneOutstanding := by
  unfold Obligations.EveryStepKeepsOneOutstanding
  exact fun s t _ ho h => keeps_outstandingInv.step s t ho h

/-- Settles O48: whatever is issued is allowed and comes behind what was issued. -/
theorem everyStepKeepsAllowedRequests : Obligations.EveryStepKeepsAllowedRequests := by
  unfold Obligations.EveryStepKeepsAllowedRequests
  exact fun s t _ hr h =>
    ⟨keeps_requestsInv.step s t hr h, (keeps_requests_prefix s.requests).step s t (List.prefix_refl _) h⟩

/-! ### What is sent (R63, R112, R186, R200) -/

/-- The command code a label sends (R63). -/
def commandAt : Label → Option Byte
  | .hsRstTx => some resetCode
  | .feC36Tx => some prefetchCode
  | .feC23Tx => some fetchCode
  | _ => none

/-- CMDB holds the frame of the label's command. -/
def CommandSent (s : State) : Prop := ∀ c, commandAt s.seq = some c → s.cmdb.toList = cmdFrame c

/-- TXB holds a content and its checksum, whose fold stands in CK. -/
def SetupSent (s : State) : Prop := suLabel s.seq = true → s.ck = fold (s.txb.toList.take 31) ∧ s.txb[31] = ckGen s.ck

/-- The poll frame to be acknowledged has passed its test. -/
def PollChecked (s : State) : Prop := s.seq = .poAckTx → s.ck = 0x7F ∧ fold (s.rxb.toList.take 8) = 0x7F

theorem sendingInv_iff (s : State) : SendingInv s ↔ CommandSent s ∧ SetupSent s ∧ PollChecked s := by
  unfold SendingInv CommandSent SetupSent PollChecked
  cases s.seq <;> simp [commandAt]

theorem commandSent_of_none {s : State} (h : commandAt s.seq = none) : CommandSent s := by
  intro c hc
  rw [h] at hc
  cases hc

theorem commandSent_sendCommand (l : Label) (c : Byte) (s : State) (h : commandAt l = some c) :
    CommandSent (sendCommand l c s) := by
  intro c' hc
  obtain rfl : c = c' := Option.some.inj (h.symm.trans hc)
  exact vecOf_toList_of_length _ rfl

theorem Reacts.commandSent {s t : State} (h : Reacts s t) (hs : CommandSent s) : CommandSent t := by
  cases h with
  | ignores | ignoresByte | nextByte | gap | fits | skips => exact hs
  | firstReset | nextReset | command23 => exact commandSent_sendCommand _ _ _ rfl
  | _ => exact commandSent_of_none rfl

theorem Reacts.setupSent {s t : State} (h : Reacts s t) (hs : SetupSent s) : SetupSent t := by
  cases h with
  | ignores | ignoresByte | nextByte | gap | fits | skips => exact hs
  | cueAck _ h | settle h | firstWrite h | writeAckWait _ h => exact fun _ => hs (of_stands (fun l _ => suLabel l) h rfl)
  | nextCue _ _ h | nextWrite _ _ h => exact fun _ => hs (of_stands (fun l _ => suLabel l) h rfl)
  | _ => exact nofun

theorem storePoll_take {bs : List Byte} (h : bs.length = 8) (rxb : Vector Byte 21) :
    (storePoll bs rxb).toList.take 8 = bs := by
  have hbs : bs.take 8 = bs := List.take_of_length_le h.le
  rw [storePoll, hbs, vecOf_toList_of_length _ (by simp [h]), List.take_left' h]

theorem Reacts.pollChecked {s t : State} (h : Reacts s t) (hs : PollChecked s) : PollChecked t := by
  cases h with
  | ignores | ignoresByte | nextByte | gap | fits | skips => exact hs
  | pollAck bs hl hf =>
    refine fun _ => ⟨hf, ?_⟩
    show fold ((storePoll bs s.rxb).toList.take 8) = 0x7F
    rw [storePoll_take hl, hf]
  | _ => exact nofun

/-- The encoded setup buffer is the content and its checksum (R112). -/
theorem encodeSetup_toList (p : Params) (cs : ConsoleState) :
    (encodeSetup (layoutOf p) cs).toList =
      setupContent (layoutOf p) cs ++ [ckGen (fold (setupContent (layoutOf p) cs))] :=
  vecOf_toList_of_length _ (by simp [setupContent_length])

theorem encodeSetup_take (p : Params) (cs : ConsoleState) :
    (encodeSetup (layoutOf p) cs).toList.take 31 = setupContent (layoutOf p) cs := by
  rw [encodeSetup_toList, List.take_left' (setupContent_length p cs)]

theorem encodeSetup_checksum (p : Params) (cs : ConsoleState) :
    (encodeSetup (layoutOf p) cs)[31] = ckGen (fold (setupContent (layoutOf p) cs)) := by
  have hl := setupContent_length p cs
  simp [encodeSetup, List.getD_eq_getElem?_getD, hl]

theorem Starts.sending {s t : State} (h : Starts s t) : CommandSent t ∧ SetupSent t ∧ PollChecked t := by
  cases h with
  | handshake => exact ⟨commandSent_of_none rfl, nofun, nofun⟩
  | fetch => exact ⟨commandSent_sendCommand _ _ _ rfl, nofun, nofun⟩
  | poll => exact ⟨commandSent_of_none rfl, nofun, nofun⟩
  | setup =>
    refine ⟨commandSent_of_none rfl, fun _ => ⟨?_, encodeSetup_checksum s.params s.cs⟩, nofun⟩
    exact congrArg fold (encodeSetup_take s.params s.cs).symm

theorem keeps_sending : Keeps fun s => CommandSent s ∧ SetupSent s ∧ PollChecked s :=
  .of_reacts (fun _ _ _ h => h) (fun _ _ _ h _ => h.sending)
    (fun _ _ h hs => ⟨h.commandSent hs.1, h.setupSent hs.2.1, h.pollChecked hs.2.2⟩) (fun _ _ _ h => h) (fun _ _ h => h)
    fun _ _ => ⟨commandSent_of_none rfl, nofun, nofun⟩

/-- Settles O49: CMDB, TXB and RXB are written before the first label that speaks of them, and stay. -/
theorem everyStepKeepsSending : Obligations.EveryStepKeepsSending := by
  unfold Obligations.EveryStepKeepsSending
  exact fun s t _ hs h => (sendingInv_iff t).mpr (keeps_sending.step s t ((sendingInv_iff s).mp hs) h)

end Sys2Proof.Machine
end

section
/-! The invariants of RESULT, the output files and HS_STATE, and reset, which meets them all. -/

namespace Sys2Proof.Machine

/-! ### RESULT, LASTERR and the valid flags (R23, R231) -/

/-- The output files, their valid flags, RESULT and OP are the same in both states (R140). -/
def SameOutputs (s t : State) : Prop :=
  t.cst = s.cst ∧ t.cstValid = s.cstValid ∧ t.mot = s.mot ∧ t.evt = s.evt ∧ t.pollValid = s.pollValid ∧
    t.result = s.result ∧ t.op = s.op

/-- A line of the pseudocode after which the operation still runs writes no output. -/
theorem Reacts.sameOutputs {s t : State} (h : Reacts s t) (hb : t.busy = true) : s.busy = true ∧ SameOutputs s t := by
  cases h with
  | synced | fetched | framesSpent | commandFails | setupSpent | setUp | pollFails | polled | hsFails | tornDown => cases hb
  | _ => exact ⟨hb, rfl, rfl, rfl, rfl, rfl, rfl, rfl⟩

theorem StandsInv.op_of_feLabel {s : State} (hs : StandsInv s) (h : feLabel s.seq = true) : s.op = .fetch := by
  have hr := hs.2.2 (by intro hq; rw [hq] at h; cases h)
  revert h hr
  cases s.op <;> cases s.seq <;> simp [runs, feLabel, hsLabel, suLabel, poLabel]

theorem StandsInv.op_of_suLabel {s : State} (hs : StandsInv s) (h : suLabel s.seq = true) : s.op = .setup := by
  have hr := hs.2.2 (by intro hq; rw [hq] at h; cases h)
  revert h hr
  cases s.op <;> cases s.seq <;> simp [runs, feLabel, hsLabel, suLabel, poLabel]

theorem StandsInv.op_of_poLabel {s : State} (hs : StandsInv s) (h : poLabel s.seq = true) : s.op = .poll := by
  have hr := hs.2.2 (by intro hq; rw [hq] at h; cases h)
  revert h hr
  cases s.op <;> cases s.seq <;> simp [runs, feLabel, hsLabel, suLabel, poLabel]

theorem StandsInv.op_of_hsLabel {s : State} (hs : StandsInv s) (h : hsLabel s.seq = true) :
    s.op = .handshake ∨ s.op = .teardown := by
  have hr := hs.2.2 (by intro hq; rw [hq] at h; cases h)
  revert h hr
  cases s.op <;> cases s.seq <;> simp [runs, feLabel, hsLabel, suLabel, poLabel]

/-- What RESULT can hold (R23, R231). -/
def ResultKind (s : State) : Prop :=
  s.result = ⟨false, false, .none⟩ ∨ s.result = ⟨true, true, .none⟩ ∨
    (s.result.done = true ∧ s.result.ok = false ∧ canReport s.op s.result.err = true)

theorem resultKind_returnErr {k : ErrKind} {s : State} (h : canReport s.op k = true) : ResultKind (returnErr k s) :=
  .inr (.inr ⟨rfl, rfl, h⟩)

theorem Reacts.resultKind {s t : State} (h : Reacts s t) (hs : StandsInv s) (hr : ResultKind s) : ResultKind t := by
  cases h with
  | synced | fetched | setUp | polled | tornDown => exact .inr (.inl rfl)
  | framesSpent k hk h =>
    exact resultKind_returnErr (by rw [hs.op_of_feLabel (of_stands (fun l _ => feLabel l) h rfl)]; exact hk)
  | commandFails k hk h =>
    exact resultKind_returnErr (by rw [hs.op_of_feLabel (of_stands (fun l _ => feLabel l) h rfl)]; exact hk)
  | setupSpent k hk h =>
    exact resultKind_returnErr (by rw [hs.op_of_suLabel (of_stands (fun l _ => suLabel l) h rfl)]; exact hk)
  | pollFails k _ _ hk h =>
    exact resultKind_returnErr (by rw [hs.op_of_poLabel (of_stands (fun l _ => poLabel l) h rfl)]; exact hk)
  | hsFails h ho =>
    have hop := (hs.op_of_hsLabel (of_stands (fun l _ => hsLabel l) h rfl)).resolve_right ho
    exact resultKind_returnErr (by rw [hop]; rfl)
  | _ => exact hr

/-- The kind a bounded loop would report. -/
def LastErrKind (s : State) : Prop := s.busy = true → s.op = .fetch ∨ s.op = .setup → canReport s.op s.lastErr = true

theorem Reacts.lastErrKind {s t : State} (h : Reacts s t) (hs : StandsInv s) (hl : LastErrKind s) : LastErrKind t := by
  cases h with
  | synced | fetched | framesSpent | commandFails | setupSpent | setUp | pollFails | polled | hsFails | tornDown =>
    exact nofun
  | nextFrame k hk h =>
    intro _ _
    exact (congrArg (canReport · k) (hs.op_of_feLabel (of_stands (fun l _ => feLabel l) h rfl))).trans hk
  | nextCue k hk h =>
    intro _ _
    exact (congrArg (canReport · k) (hs.op_of_suLabel (of_stands (fun l _ => suLabel l) h rfl))).trans hk
  | nextWrite k hk h =>
    intro _ _
    exact (congrArg (canReport · k) (hs.op_of_suLabel (of_stands (fun l _ => suLabel l) h rfl))).trans hk
  | _ => exact hl

theorem Reacts.results {s t : State} (h : Reacts s t) (hs : StandsInv s) (hr : ResultInv s ∧ ValidInv s) :
    ResultInv t ∧ ValidInv t := by
  obtain ⟨⟨hclear, hkind, hlast⟩, hcst, hpoll⟩ := hr
  refine ⟨⟨fun hb => ?_, h.resultKind hs hkind, h.lastErrKind hs hlast⟩, fun hb ho => ?_, fun hb ho => ?_⟩ <;>
    obtain ⟨hsb, -, hcv, -, -, hpv, hres, hop⟩ := h.sameOutputs hb
  · rw [hres, hclear hsb]
  · rw [hcv, hcst hsb (hop ▸ ho)]
  · rw [hpv, hpoll hsb (hop ▸ ho)]

theorem Starts.results {s t : State} (h : Starts s t) : ResultInv t ∧ ValidInv t := by
  cases h with
  | handshake o ho =>
    rcases ho with rfl | rfl <;> exact ⟨⟨fun _ => rfl, .inl rfl, fun _ h => by rcases h with h | h <;> cases h⟩, nofun, nofun⟩
  | fetch => exact ⟨⟨fun _ => rfl, .inl rfl, fun _ _ => rfl⟩, fun _ _ => Bool.and_false _, nofun⟩
  | setup => exact ⟨⟨fun _ => rfl, .inl rfl, fun _ _ => rfl⟩, nofun, nofun⟩
  | poll => exact ⟨⟨fun _ => rfl, .inl rfl, fun _ h => by rcases h with h | h <;> cases h⟩, nofun, fun _ _ => Bool.and_false _⟩

theorem keeps_results : Keeps fun s => StandsInv s ∧ ResultInv s ∧ ValidInv s :=
  .of_standing (fun _ _ _ h => h) (fun _ _ _ _ h _ => h.results) (fun _ _ hs h => h.results hs) (fun _ _ _ h => h)
    (fun _ _ h => h) fun _ _ => ⟨⟨nofun, .inl rfl, nofun⟩, nofun, nofun⟩

/-- Settles O50: each return reports a kind of its own operation, and nothing else writes RESULT or sets a flag. -/
theorem everyStepKeepsResult : Obligations.EveryStepKeepsResult := by
  unfold Obligations.EveryStepKeepsResult
  exact fun s t hs hr hv h => (keeps_results.step s t ⟨hs, hr, hv⟩ h).2

/-! ### MOT and EVT (R26, R27) -/

theorem signMag_ne (f : Bool) (m : Byte) : signMag f m ≠ 256 := by
  intro h
  have hval := signMag_toInt f m
  have hmin : (256 : BitVec 9).toInt = -256 := by decide
  rw [h, hmin] at hval
  split at hval <;> omega

/-- The fields of an event fit its tag (R27). -/
def EventFits (e : EventRec) : Prop :=
  (e.tag = .none → e.ctrl = 0 ∧ e.val = 0) ∧ (e.tag = .button → e.val = 0) ∧ (e.tag = .toggle → e.val.toNat ≤ 1) ∧
    (e.tag = .slider ∨ e.tag = .switch → e.val.toNat ≤ 255) ∧ (e.tag = .knob → e.val.toNat ≤ 32767)

theorem eventFits_button (c : Byte) : EventFits ⟨.button, c, 0⟩ := by
  simp [EventFits]

theorem eventFits_knob {c : Byte} {v : Half} (h : v.toNat ≤ 32767) : EventFits ⟨.knob, c, v⟩ := by
  simpa [EventFits] using h

theorem toNat_byte_le (b : Byte) : (b.setWidth 16 : Half).toNat ≤ 255 := by
  rw [BitVec.toNat_setWidth_of_le (by decide)]
  omega

/-- Whatever the arm, the event it gives fits. -/
theorem eventFits_classArm {p : Params} {id v1 v2 : Byte} {c : IdClass} {e : EventRec}
    (h : classArm p id v1 v2 c = some e) : EventFits e := by
  cases c with
  | none => cases h; simp [EventFits]
  | trim =>
    obtain ⟨b, -, rfl⟩ := Option.map_eq_some_iff.mp h
    exact eventFits_button b
  | knob => cases h; exact eventFits_knob (Nat.le_of_lt_succ (join7_toNat_lt v1 v2))
  | knobXpdr => cases h; exact eventFits_knob ((xpdrValue_toNat_lt v1 v2).le.trans (by decide))
  | button => cases h; exact eventFits_button id
  | toggle =>
    cases h
    unfold toggleValue
    split <;> simp [EventFits]
  | switch => cases h; simpa [EventFits] using toNat_byte_le v1
  | slider => cases h; simpa [EventFits] using toNat_byte_le v1
  | invalid => cases h

theorem Reacts.outputsFit {s t : State} (h : Reacts s t) (hs : OutputInv s) : OutputInv t := by
  cases h with
  | polled e hd => exact ⟨⟨signMag_ne _ _, signMag_ne _ _, signMag_ne _ _⟩, eventFits_classArm hd⟩
  | _ => exact hs

theorem Starts.outputsFit {s t : State} (h : Starts s t) (hs : OutputInv s) : OutputInv t := by
  cases h <;> exact hs

theorem keeps_outputInv : Keeps OutputInv :=
  .of_reacts (fun _ _ _ h => h) (fun _ _ _ h => h.outputsFit) (fun _ _ h => h.outputsFit) (fun _ _ _ h => h)
    (fun _ _ h => h) fun _ _ => by simp [OutputInv, resetInput, State.resetWith]

/-- Settles O51: only POLL's last line writes MOT and EVT, with a sign and magnitude and an arm's event. -/
theorem everyStepKeepsOutputs : Obligations.EveryStepKeepsOutputs := by
  unfold Obligations.EveryStepKeepsOutputs
  exact keeps_outputInv.step

/-! ### HS_STATE (R151, R152) -/

/-- The values HS_STATE can have at a label (R151). -/
def hsStatesAt : Label → List HsState
  | .hsProbe => [.awaitingSync]
  | .hsSync => [.awaitingSync]
  | .hsNudge => [.awaitingSync]
  | .hsRstTx => [.resettingSent]
  | .hsRstAck => [.resettingSent]
  | _ => [.idle, .synchronized]

theorem hsInv_iff (s : State) : HsInv s ↔ s.hsState ∈ hsStatesAt s.seq := by
  unfold HsInv
  cases s.seq <;> simp [hsStatesAt, hsLabel]

theorem hsState_of_stands {s t : State} {stands : List (Label × Sub)} (hs : s.hsState ∈ hsStatesAt s.seq)
    (h : (s.seq, s.sub) ∈ stands) (ht : t.hsState = s.hsState)
    (hall : stands.all (fun q => hsStatesAt q.1 == hsStatesAt t.seq) = true) : t.hsState ∈ hsStatesAt t.seq := by
  have heq := of_stands (fun l _ => hsStatesAt l == hsStatesAt t.seq) h hall
  rwa [ht, ← beq_iff_eq.mp heq]

theorem Reacts.hsState {s t : State} (h : Reacts s t) (hs : s.hsState ∈ hsStatesAt s.seq) : t.hsState ∈ hsStatesAt t.seq := by
  cases h with
  | ignores | ignoresByte | nextByte | gap | fits | skips => exact hs
  | synced => exact List.mem_cons_of_mem _ (List.mem_singleton_self _)
  | firstReset | nextReset | step3 | nextPass | hsFails | tornDown => exact List.mem_cons_self
  | _ => exact hsState_of_stands hs ‹_› rfl rfl

theorem Starts.hsState {s t : State} (h : Starts s t) (hq : s.seq = .idle) (hs : s.hsState ∈ hsStatesAt s.seq) :
    t.hsState ∈ hsStatesAt t.seq := by
  rw [hq] at hs
  cases h with
  | handshake => exact List.mem_cons_self
  | _ => exact hs

theorem keeps_hsState : Keeps fun s => StandsInv s ∧ s.hsState ∈ hsStatesAt s.seq :=
  .of_standing (fun _ _ _ h => h) (fun _ _ hb hs h => h.hsState (hs.idle_of_not_busy hb).1) (fun _ _ _ h => h.hsState)
    (fun _ _ _ h => h) (fun _ _ h => h) fun _ _ => List.mem_cons_self

/-- Settles O52: HS_STATE is written where the label changes its kind, and stays elsewhere. -/
theorem everyStepKeepsHandshakeState : Obligations.EveryStepKeepsHandshakeState := by
  unfold Obligations.EveryStepKeepsHandshakeState
  exact fun s t hs hh h => (hsInv_iff t).mpr (keeps_hsState.step s t ⟨hs, (hsInv_iff s).mp hh⟩ h).2

/-! ### Reset (R260, R261) -/

/-- Settles O53: at reset the machine is idle, so only the registers read at IDLE are left to check. -/
theorem resetMeetsTheInvariants : Obligations.ResetMeetsTheInvariants := by
  unfold Obligations.ResetMeetsTheInvariants
  intro p
  refine ⟨⟨iff_of_true rfl rfl, rfl, fun h => absurd rfl h⟩, ⟨nofun, fun h => absurd rfl h, nofun⟩,
    timerInv_of_zero (by simp [State.resetWith]) rfl, ⟨nofun, rfl⟩, fun h => absurd rfl h, ?_,
    (sendingInv_iff _).mpr ⟨commandSent_of_none rfl, nofun, nofun⟩, ⟨nofun, .inl rfl, nofun⟩, ⟨nofun, nofun⟩, ?_,
    (hsInv_iff _).mpr List.mem_cons_self⟩
  · simp [RequestsInv, State.resetWith, allowedRequest]
  · simp [OutputInv, State.resetWith]

/-- Settles O59: by evaluation of the machine at reset. -/
theorem resetValues : Obligations.ResetValues := by
  unfold Obligations.ResetValues
  exact ⟨rfl, rfl, rfl, rfl, rfl, rfl, rfl, rfl, rfl, rfl, rfl, rfl, rfl, rfl, rfl, rfl, rfl, rfl, rfl, rfl, rfl, rfl, rfl,
    rfl, rfl, rfl, rfl, rfl, rfl⟩

/-- A step takes the input that is next. -/
theorem step_cons {s : State} {e : Input} {rest : List Input} (h : s.inbox = e :: rest) :
    step s = handle e { s with inbox := rest } := by
  rw [step, h]

/-- Settles O60: each of the two inputs is one update of the state. -/
theorem clientWriteAndReset : Obligations.ClientWriteAndReset := by
  unfold Obligations.ClientWriteAndReset
  exact ⟨fun s w rest h => step_cons h, fun s rest h => step_cons h⟩

end Sys2Proof.Machine
end

section
/-! What a step does with its input (notes/assumptions/1.md), and the starts of the operations (spec/41_primitives.md R139). -/

namespace Sys2Proof.Machine

/-! ### Steps -/

theorem decodeOp_of_start {code : BitVec 3} {i : Instr} (h : decode .client [code.setWidth 8] = .ok i) :
    i = decodeOp code := by
  have hcode : decode .client [code.setWidth 8] = .ok (decodeOp code) := by
    clear h
    revert code
    decide
  exact Except.ok.inj (h.symm.trans hcode)

theorem runFrame_ok {s : State} {bs : List Byte} {i : Instr} (h : decode .channel bs = .ok i) :
    runFrame bs s = if i.wf then exec i s else otherBytes bs s := by
  rw [runFrame, h]

theorem runFrame_error {s : State} {bs : List Byte} {e : DecodeError} (h : decode .channel bs = .error e) :
    runFrame bs s = .next (arrive bs s) := by
  rw [runFrame, h]
  rfl

theorem classifies_iff (s : State) : classifies s = true ↔ s.seq = .poAckTx ∧ s.sub = .wr := by
  simp [classifies]

theorem handle_grant_classifying {s : State} (h : classifies s = true) :
    handle .grant s = exec (decodeRawId s.rxb[4]) s :=
  if_pos h

/-- Where POLL classifies, the row of the raw id is what the accepted acknowledge does (R200, R208). -/
theorem handle_grant (s : State) : handle .grant s = .next (grant s) := by
  by_cases h : classifies s = true
  · rw [handle_grant_classifying h, exec_decodeRawId_grant s h]
  · exact if_neg h

/-- Settles O4: port by port. -/
theorem stepRunsDecodedInstruction : Obligations.StepRunsDecodedInstruction := by
  unfold Obligations.StepRunsDecodedInstruction
  refine ⟨fun s code rest i hin hdec => ?_, fun s bs rest i hin hdec hwf => ?_, fun s rest i hin hq hu hdec => ?_⟩
  · rw [step_cons hin, decodeOp_of_start hdec, handle]
  · rw [step_cons hin, handle, runFrame_ok hdec, if_pos hwf]
  · obtain rfl : decodeRawId s.rxb[4] = i := Except.ok.inj hdec
    exact (step_cons hin).trans
      (handle_grant_classifying ((classifies_iff { s with inbox := rest }).mpr ⟨hq, hu⟩))

/-- Settles O5: the two cases in which the channel's decoder names no instruction. -/
theorem stepWithoutInstruction : Obligations.StepWithoutInstruction := by
  unfold Obligations.StepWithoutInstruction
  refine ⟨fun s hin => by rw [step, hin], fun s bs rest hin => ⟨fun e hdec => ?_, fun i hdec hwf => ?_⟩⟩
  · rw [step_cons hin, handle, runFrame_error hdec]
  · rw [step_cons hin, handle, runFrame_ok hdec, hwf]
    rfl

theorem exec_next (i : Instr) (s : State) : ∃ t, exec i s = .next t := by
  cases i <;> exact ⟨_, rfl⟩

theorem runFrame_next (bs : List Byte) (s : State) : ∃ t, runFrame bs s = .next t := by
  unfold runFrame
  split
  · split
    · exact exec_next _ s
    · exact ⟨_, rfl⟩
  · exact ⟨_, rfl⟩

theorem handle_next (e : Input) (s : State) : ∃ t, handle e s = .next t := by
  cases e with
  | start code => exact exec_next _ s
  | frame bs => exact runFrame_next bs s
  | grant => exact ⟨_, handle_grant s⟩
  | _ => exact ⟨_, rfl⟩

/-- Settles O6: every input answers a next state. -/
theorem everyStepAnswersNext : Obligations.EveryStepAnswersNext := by
  unfold Obligations.EveryStepAnswersNext
  intro s
  cases hin : s.inbox with
  | nil => exact ⟨s, by rw [step, hin]⟩
  | cons e rest =>
    rw [step_cons hin]
    exact handle_next e _

/-! ### Starts -/

/-- A wait begins with the state in which it is outstanding (R136). -/
theorem beginWait_eq_waiting {l : Label} (h : readLen l = 1) (s : State) : beginWait l s = waiting l [] s := by
  simp [beginWait, waiting, issueRead, setRto, emit, standAt, h]

theorem accept_eq_accepted {o : Op} (hf : o ≠ .fetch) (hp : o ≠ .poll) (s : State) : accept o s = accepted o s := by
  simp [accept, accepted, hf, hp]

theorem accept_fetch (s : State) : accept .fetch s = { accepted .fetch s with cstValid := false } := by
  simp [accept, accepted]

theorem accept_poll (s : State) : accept .poll s = { accepted .poll s with pollValid := false } := by
  simp [accept, accepted]

theorem hsBegin_eq (s : State) : hsBegin s = waiting .hsProbe [] { s with pass := 0, hsState := .awaitingSync } :=
  beginWait_eq_waiting rfl _

theorem cmdb_cmdFrame (c : Byte) : vecOf 3 (cmdFrame c) = #v[0xA5, c, complementOf c] := by
  apply Vector.ext
  intro i hi
  match i, hi with
  | 0, _ => rfl
  | 1, _ => rfl
  | 2, _ => rfl

/-- A command frame is begun with its bytes in CMDB and SYNC on the way (R137). -/
theorem sendCommand_eq {l : Label} (h : sendsCommand l = true) (c : Byte) (s : State) :
    sendCommand l c s =
      { s with
        cmdb := #v[0xA5, c, complementOf c]
        idx := 0
        seq := l
        sub := .wr
        requests := s.requests ++ [.write 0xA5] } := by
  have hne : l ≠ .suWrTx := by
    rintro rfl
    cases h
  simp [sendCommand, beginFrame, issueWrite, emit, standAt, outByte, outFrame, sendsFrame, h, hne, cmdb_cmdFrame]

/-! ### The ends of the attempt loops (R141) -/

theorem feLoop_raise (k : ErrKind) (s : State) :
    feLoop (raiseErr k s) =
      if s.tries.toNat < 3 then waiting .feSync [] { s with lastErr := k, tries := s.tries + 1 }
      else returned ⟨true, false, k⟩ { s with lastErr := k } := by
  split <;> rename_i ht
  · exact (attemptLoop_next _ _ (raiseErr k s) ht).trans (beginWait_eq_waiting rfl _)
  · exact attemptLoop_spent _ _ (raiseErr k s) ht

theorem suCueLoop_raise (k : ErrKind) (s : State) :
    suCueLoop (raiseErr k s) =
      if s.tries.toNat < 3 then waiting .suCue [] { s with lastErr := k, tries := s.tries + 1 }
      else returned ⟨true, false, k⟩ { s with lastErr := k } := by
  split <;> rename_i ht
  · exact (attemptLoop_next _ _ (raiseErr k s) ht).trans (beginWait_eq_waiting rfl _)
  · exact attemptLoop_spent _ _ (raiseErr k s) ht

theorem suWriteLoop_raise (k : ErrKind) (s : State) :
    suWriteLoop (raiseErr k s) =
      if s.tries.toNat < 3 then
        { s with
          lastErr := k
          tries := s.tries + 1
          idx := 0
          seq := .suWrTx
          sub := .wr
          requests := s.requests ++ [.write 0xA5] }
      else returned ⟨true, false, k⟩ { s with lastErr := k } := by
  split <;> rename_i ht
  · exact attemptLoop_next _ _ (raiseErr k s) ht
  · exact attemptLoop_spent _ _ (raiseErr k s) ht

theorem hsResetLoop_eq (s : State) :
    hsResetLoop s =
      if s.tries.toNat < 3 then resetCommand { s with tries := s.tries + 1 }
      else waiting .hsSync [] { s with hsState := .awaitingSync } := by
  split <;> rename_i ht
  · exact (attemptLoop_next _ _ s ht).trans (sendCommand_eq rfl resetCode _)
  · exact (attemptLoop_spent _ _ s ht).trans (beginWait_eq_waiting rfl _)

/-! ### The statements of the starts -/

/-- Settles O7: an accepted start runs `hsBegin`. -/
theorem handshakeAndTeardownStart : Obligations.HandshakeAndTeardownStart := by
  unfold Obligations.HandshakeAndTeardownStart
  intro s hb
  have hstart : ∀ o, o ≠ .fetch → o ≠ .poll → (if s.busy then s else hsBegin (accept o s)) =
      waiting .hsProbe [] { accepted o s with pass := 0, hsState := .awaitingSync } := by
    intro o hf hp
    rw [if_neg (by simp [hb]), accept_eq_accepted hf hp, hsBegin_eq]
  exact ⟨congrArg Host.Outcome.next (hstart _ nofun nofun), congrArg Host.Outcome.next (hstart _ nofun nofun)⟩

/-- Settles O8: an accepted start runs the first line of its operation. -/
theorem fetchSetupAndPollStart : Obligations.FetchSetupAndPollStart := by
  unfold Obligations.FetchSetupAndPollStart
  intro s hb
  have hrun : ∀ u : State, (if s.busy then s else u) = u := fun u => if_neg (by simp [hb])
  refine ⟨congrArg Host.Outcome.next ((hrun _).trans ?_), congrArg Host.Outcome.next ((hrun _).trans ?_),
    congrArg Host.Outcome.next ((hrun _).trans ?_)⟩
  · rw [feBegin, sendCommand_eq rfl, accept_fetch]
    rfl
  · rw [suBegin_eq, accept_eq_accepted (by decide) (by decide), beginWait_eq_waiting rfl]
    rfl
  · rw [poBegin, beginWait_eq_waiting rfl, accept_poll]

/-- Settles O9: BUSY and the reserved codes end a start before it writes anything. -/
theorem ignoredStarts : Obligations.IgnoredStarts := by
  unfold Obligations.IgnoredStarts
  refine ⟨fun s hb => ?_, fun s => ⟨rfl, fun _ => rfl⟩⟩
  have hstay : ∀ u : State, (if s.busy then s else u) = s := fun u => if_pos hb
  exact ⟨congrArg Host.Outcome.next (hstay _), congrArg Host.Outcome.next (hstay _), congrArg Host.Outcome.next (hstay _),
    congrArg Host.Outcome.next (hstay _), congrArg Host.Outcome.next (hstay _)⟩

end Sys2Proof.Machine
end

section
/-! Transfers on the channel (spec/30_encoding.md sections 1 to 5): where the bytes of a row go out, where they come in, and what
each does at a fresh wait. -/

namespace Sys2Proof.Machine

/-! ### Out or in -/

theorem aboutToSend_iff (frame : List Byte) (s : State) :
    aboutToSend frame s = true ↔ s.sub = .wr ∧ s.idx = 0 ∧ sendsFrame s.seq = true ∧ outFrame s = frame := by
  simp [aboutToSend, and_assoc, and_left_comm]

theorem passFrame_in {frame : List Byte} {s : State}
    (h : ¬(s.sub = .wr ∧ s.idx = 0 ∧ sendsFrame s.seq = true ∧ outFrame s = frame)) :
    passFrame frame s = arrive frame s :=
  if_neg fun ha => h ((aboutToSend_iff frame s).mp ha)

theorem passFrame_out {frame : List Byte} {s : State} (h : aboutToSend frame s = true) :
    passFrame frame s = sendBytes frame.length s :=
  if_pos h

theorem execSync_in {s : State} (h : ¬(s.sub = .wr ∧ s.idx = 0 ∧ sendsFrame s.seq = true ∧ outByte s = 0xA5)) :
    exec .sync s = .next (arrive [0xA5] s) := by
  refine congrArg Host.Outcome.next (if_neg fun ha => h ?_)
  simp only [Bool.and_eq_true, beq_iff_eq] at ha
  obtain ⟨⟨⟨hu, hf⟩, hi⟩, ho⟩ := ha
  exact ⟨hu, hi, hf, ho⟩

theorem execAck_in {s : State} (h : ¬(s.sub = .wr ∧ sendsAck s.seq = true)) : exec .ack s = .next (arrive [0x06] s) := by
  refine congrArg Host.Outcome.next (if_neg fun ha => h ?_)
  simpa using ha

/-- Where no write is outstanding, every row of the channel arrives. -/
theorem exec_channel_in {s : State} {i : Instr} (hu : s.sub ≠ .wr) (hi : i.port = .channel) :
    exec i s = .next (arrive (encode i) s) := by
  cases i with
  | sync => exact execSync_in fun h => hu h.1
  | ack => exact execAck_in fun h => hu h.1
  | cmd | cmdReset | cmdPrefetch | cmdFetch | setupWrite =>
    exact congrArg Host.Outcome.next (passFrame_in fun h => hu h.1)
  | idleSync | cue | cstFrame | pollFrame => rfl
  | _ => cases hi

/-! ### Bytes that no read takes (R55) -/

theorem deliverAll_not_ready {s : State} (h : readReady s = false) (n : Nat) : deliverAll n s = s := by
  cases n with
  | zero => rfl
  | succ n => rw [deliverAll, h]; rfl

theorem arrive_of_not_reading {s : State} (hu : s.sub ≠ .rd) (bs : List Byte) :
    arrive bs s = { s with held := s.held ++ bs } :=
  deliverAll_not_ready (by simp [readReady, hu]) _

theorem step_otherBytes {s : State} {bs : List Byte} {rest : List Input} (hin : s.inbox = .frame bs :: rest)
    (h : ∀ i, decode .channel bs = .ok i → i.wf = false) : step s = .next (arrive bs { s with inbox := rest }) := by
  rw [step_cons hin, handle]
  cases hdec : decode .channel bs with
  | error e => exact runFrame_error hdec
  | ok i => rw [runFrame_ok hdec, h i hdec]; rfl

/-- Settles O22: where nothing of it goes out, a row arrives; where nothing is read, what arrives is held. -/
theorem bytesAreHeldWhileNotReading : Obligations.BytesAreHeldWhileNotReading := by
  unfold Obligations.BytesAreHeldWhileNotReading
  intro s hu
  have hheld : ∀ bs, Host.Outcome.next (ρ := Refusal) (φ := Fault) (arrive bs s) = .next { s with held := s.held ++ bs } :=
    fun bs => congrArg _ (arrive_of_not_reading hu bs)
  have hpass : ∀ frame, ¬(s.sub = .wr ∧ s.idx = 0 ∧ sendsFrame s.seq = true ∧ outFrame s = frame) →
      Host.Outcome.next (ρ := Refusal) (φ := Fault) (passFrame frame s) = .next { s with held := s.held ++ frame } :=
    fun frame h => (congrArg _ (passFrame_in h)).trans (hheld frame)
  refine ⟨hheld _, hheld _, fun _ _ _ => hheld _, fun _ _ _ _ _ _ _ _ => hheld _, fun h => (execSync_in h).trans (hheld _),
    fun h => (execAck_in h).trans (hheld _), fun c k h => ⟨hpass _ h, ?_, ?_, ?_⟩, fun content ck h => hpass _ h,
    fun bs rest hin h => ?_⟩
  · rintro ⟨rfl, rfl⟩
    exact hpass _ h
  · rintro ⟨rfl, rfl⟩
    exact hpass _ h
  · rintro ⟨rfl, rfl⟩
    exact hpass _ h
  · rw [step_otherBytes hin h, arrive_of_not_reading (s := { s with inbox := rest }) hu]

/-! ### Held bytes (R54, R55, R277) -/

/-- Bytes held and bytes arriving are one queue. -/
theorem arrive_held (s : State) (bs : List Byte) : arrive bs s = arrive (s.held ++ bs) { s with held := [] } := by
  simp [arrive]

theorem readReady_iff (s : State) : readReady s = true ↔ s.sub = .rd ∧ readLen s.seq ≤ s.held.length := by
  simp [readReady]

theorem grant_waiting {s : State} (hu : s.sub = .rd) (h : s.held.length < readLen s.seq) : grant s = s := by
  have hnot : ¬readReady s = true := fun hr => absurd ((readReady_iff s).mp hr).2 (by omega)
  simp only [grant, hu, if_neg hnot]

theorem grant_ready {s : State} (h : readReady s = true) : grant s = deliver s := by
  simp only [grant, ((readReady_iff s).mp h).1, if_pos h]

theorem withEnv_of_inbox {s : State} {i : List Input} (hi : s.inbox = i) (h : List Byte) :
    s.withEnv h i = { s with held := h } := by
  subst hi
  rfl

/-- A granted read does with its bytes what they do arriving, and leaves the others held (R43). -/
theorem grant_takes {s : State} {taken left : List Byte} (hu : s.sub = .rd) (hh : s.held = taken ++ left)
    (hl : taken.length = readLen s.seq) : grant s = { arrive taken { s with held := [] } with held := left } := by
  have hready : readReady s = true := (readReady_iff s).mpr ⟨hu, by rw [hh, List.length_append, hl]; omega⟩
  have harr : arrive taken { s with held := [] } = answerRead (some taken) { s with held := [] } := by
    have h := arrive_append { s with held := [] } taken [] hu rfl hl
    rwa [List.append_nil, arrive_nil _ (answerRead_held _ _)] at h
  rw [grant_ready hready, deliver, hh, List.take_left' hl, List.drop_left' hl, harr]
  exact (answerRead_env (some taken) { s with held := [] } left s.inbox).trans (withEnv_of_inbox (answerRead_inbox _ _) left)

/-- Settles O34: one queue, and a grant takes its front. -/
theorem heldBytesComeFirst : Obligations.HeldBytesComeFirst := by
  unfold Obligations.HeldBytesComeFirst
  refine ⟨fun s bs _ => arrive_held s bs, fun s i hu hi => ?_, fun s rest hin hu => ⟨fun hl => ?_, fun taken left hh hl => ?_⟩⟩
  · rw [exec_channel_in (by simp [hu]) hi, arrive_held]
  · rw [step_cons hin, handle_grant, grant_waiting (s := { s with inbox := rest }) hu hl]
  · rw [step_cons hin, handle_grant, grant_takes (s := { s with inbox := rest }) hu hh hl]

/-! ### The awaited byte at a fresh wait (R136) -/

theorem wait_reads_one {l : Label} (h : awaited l ≠ []) : readLen l = 1 ∧ readsBody l = false := by
  revert h
  cases l <;> decide

/-- Each byte that arrives at a wait is one answered read. -/
theorem arrive_at_wait {s : State} (hu : s.sub = .rd) (hh : s.held = []) (ha : awaited s.seq ≠ []) (b : Byte)
    (rest : List Byte) : arrive (b :: rest) s = arrive rest (goOn afterWait (waitAnswer (some b) s)) := by
  obtain ⟨hlen, hbody⟩ := wait_reads_one ha
  have h := arrive_append s [b] rest hu hh hlen.symm
  rwa [answerRead_wait hbody] at h

theorem afterWait_held (v : Verdict) (s : State) : (afterWait v s).held = s.held := by
  have h := afterWait_env v s s.held s.inbox
  rw [State.withEnv_self] at h
  have hheld := congrArg State.held h
  exact hheld

/-- A fresh wait for one byte takes it, and what follows goes to the reads after it. -/
theorem arrive_takes {s : State} {l : Label} {b : Byte} (h : FreshWait l s) (ha : awaited l = [b]) (rest : List Byte) :
    arrive (b :: rest) s = arrive rest (afterWait .ok { s with matched := 1 }) := by
  obtain ⟨rfl, hu, hm, hh⟩ := h
  have hfits : (awaited s.seq)[s.matched.toNat]? = some b := by simp [ha, hm]
  have hlast : (s.matched + 1).toNat = (awaited s.seq).length := by simp [ha, hm]
  rw [arrive_at_wait hu hh (by simp [ha]), waitAnswer_last s b hfits hlast, hm]
  rfl

/-- A row of one awaited byte hands its wait back to the operation. -/
theorem exec_takes {s : State} {l : Label} {i : Instr} {b : Byte} (h : FreshWait l s) (ha : awaited l = [b])
    (hi : i.port = .channel) (hb : encode i = [b]) : exec i s = .next (afterWait .ok { s with matched := 1 }) := by
  rw [exec_channel_in (by simp [h.2.1]) hi, hb, arrive_takes h ha, arrive_nil]
  exact (afterWait_held _ _).trans h.2.2.2

/-- Settles O10: SYNC hands the wait back to FETCH and to POLL. -/
theorem syncReceived : Obligations.SyncReceived := by
  unfold Obligations.SyncReceived
  refine fun s => ⟨fun h => ?_, fun h => ?_⟩
  · rw [exec_takes h rfl rfl rfl]
    simp [afterWait, h.1, feAfterSync, issueRead, setRto, emit, standAt, readLen, h.2.1]
  · rw [exec_takes h rfl rfl rfl]
    simp [afterWait, h.1, poAfterSync, issueRead, emit, standAt, readLen, h.2.1]

/-- Settles O12: ACK hands the wait back to the next line. -/
theorem ackReceived : Obligations.AckReceived := by
  unfold Obligations.AckReceived
  refine fun s => ⟨fun h => ?_, fun h => ?_, fun h => ?_, fun h => ?_⟩ <;> rw [exec_takes h rfl rfl rfl] <;>
    simp only [afterWait, h.1]
  · exact congrArg _ (beginWait_eq_waiting rfl _)
  · exact congrArg _ (sendCommand_eq rfl fetchCode _)
  · rw [feAfterAck23, feLoop, attemptLoop_first, beginWait_eq_waiting rfl]
    rfl
  · rfl

/-- Settles O15: IDLE_SYNC hands the wait back to `synced:`. -/
theorem idleSyncReceived : Obligations.IdleSyncReceived := by
  unfold Obligations.IdleSyncReceived
  rintro s l (rfl | rfl) h <;> rw [exec_takes h rfl rfl rfl] <;> simp only [afterWait, h.1] <;> rfl

/-! ### Writes accepted -/

theorem execAck_out {s : State} (hu : s.sub = .wr) (ha : sendsAck s.seq = true) :
    exec .ack s = .next (afterByte .ok s) := by
  have hf : sendsFrame s.seq = false := by
    revert ha
    cases s.seq <;> decide
  refine congrArg Host.Outcome.next ((if_pos ?_).trans (answerWrite_byte hf true))
  simp [hu, ha]

/-- Settles O13: the accepted acknowledge runs the next line of its operation. -/
theorem ackSent : Obligations.AckSent := by
  unfold Obligations.AckSent
  refine fun s hu => ⟨fun hq => ?_, fun hq => ?_, fun hq => ?_⟩ <;> rw [execAck_out hu (by rw [hq]; rfl)] <;>
    simp only [afterByte, hq]
  · rfl
  · rfl
  · rw [poAfterAck]
    cases decodeEvent s.params s.rxb[4] s.rxb[5] s.rxb[6] <;> rfl

theorem outByte_of_sendsFrame {s : State} (hf : sendsFrame s.seq = true) : outByte s = (outFrame s).getD s.idx.toNat 0 :=
  if_pos hf

theorem outFrame_write {s : State} (hq : s.seq = .suWrTx) : outFrame s = setupHeader ++ s.txb.toList :=
  if_pos hq

theorem outFrame_command {s : State} (hf : sendsCommand s.seq = true) : outFrame s = s.cmdb.toList :=
  if_neg (by intro hq; rw [hq] at hf; cases hf)

theorem sendsFrame_of_command {l : Label} (h : sendsCommand l = true) : sendsFrame l = true := by
  simp [sendsFrame, h]

/-- A transmission whose first byte is SYNC is begun by the row SYNC going out. -/
theorem execSync_out {s : State} (hu : s.sub = .wr) (hf : sendsFrame s.seq = true) (hi : s.idx = 0)
    (ho : outByte s = 0xA5) : exec .sync s = .next (answerWrite true s) := by
  refine congrArg Host.Outcome.next (if_pos ?_)
  have ho' : outByte s = syncByte := ho
  simp [hu, hf, hi, ho']

/-- Settles O11: the first byte of a transmission is never its last. -/
theorem syncSent : Obligations.SyncSent := by
  unfold Obligations.SyncSent
  rintro s l hl ⟨rfl, hu, hi⟩
  have hsend : sendsFrame s.seq = true ∧ outByte s = 0xA5 := by
    rcases hl with hq | ⟨hc, hl⟩
    · have hf : sendsFrame s.seq = true := by rw [hq]; rfl
      exact ⟨hf, by rw [outByte_of_sendsFrame hf, outFrame_write hq, hi]; rfl⟩
    · have hcmd : sendsCommand s.seq = true := by rcases hl with hq | hq | hq <;> rw [hq] <;> rfl
      refine ⟨sendsFrame_of_command hcmd, ?_⟩
      rw [outByte_of_sendsFrame (sendsFrame_of_command hcmd), outFrame_command hcmd, hi]
      simpa using hc
  obtain ⟨hf, ho⟩ := hsend
  have hgap : (s.idx + 1).toNat ≠ (outFrame s).length := by
    rw [outFrame_length, hi]
    split <;> decide
  rw [execSync_out hu hf hi ho, answerWrite_gap s hf hgap, hi]
  rfl

/-- A whole transmission goes out, each further byte after its gap (R132, R270). -/
theorem passFrame_sends {s : State} {l : Label} {first : Byte} {rest : List Byte} (h : FreshFrame l s)
    (hf : sendsFrame l = true) (ho : outFrame s = first :: rest) (hne : rest ≠ []) :
    passFrame (first :: rest) s =
      afterFrame .ok
        { s with
          idx := BitVec.ofNat 6 (rest.length + 1)
          timer := 0
          requests := s.requests ++ gapped rest } := by
  obtain ⟨rfl, hu, hi⟩ := h
  rw [passFrame_out ((aboutToSend_iff _ s).mpr ⟨hu, hi, hf, ho⟩), List.length_cons,
    sendBytes_rest rest.length s hu hf (by simp [hi, ho]), ho, hi, if_neg (by simpa using hne)]
  rfl

theorem beginWait_after_requests {l : Label} (h : readLen l = 1) (reqs : List Request) (s : State) :
    beginWait l { s with requests := s.requests ++ reqs } = waiting l reqs s := by
  simp [beginWait, waiting, issueRead, setRto, emit, standAt, h]

/-- The labels of the command frames, each with the label of its acknowledge wait (R138, R150). -/
def commandAcks : List (Label × Label) := [(.hsRstTx, .hsRstAck), (.feC36Tx, .feC36Ack), (.feC23Tx, .feC23Ack)]

/-- A command frame that has gone out is followed by its acknowledge wait (R138, R150). -/
theorem afterFrame_command {s : State} {l' : Label} (h : (s.seq, l') ∈ commandAcks) :
    afterFrame .ok s = beginWait l' s ∧ sendsCommand s.seq = true ∧ readLen l' = 1 := by
  simp only [commandAcks, List.mem_cons, Prod.mk.injEq, List.not_mem_nil, or_false] at h
  rcases h with ⟨hq, rfl⟩ | ⟨hq, rfl⟩ | ⟨hq, rfl⟩ <;> simp only [afterFrame, hq] <;> exact ⟨rfl, rfl, rfl⟩

theorem command_passes {s : State} {c k : Byte} {l l' : Label} (hl : (l, l') ∈ commandAcks) (h : FreshFrame l s)
    (hc : s.cmdb = #v[0xA5, c, k]) :
    passFrame [0xA5, c, k] s = waiting l' (gapped [c, k]) { s with idx := 3, timer := 0 } := by
  obtain ⟨rfl, -⟩ := id h
  obtain ⟨-, hcmd, hlen⟩ := afterFrame_command hl
  have hout : outFrame s = [0xA5, c, k] := by rw [outFrame_command hcmd, hc]; rfl
  rw [passFrame_sends h (sendsFrame_of_command hcmd) hout (List.cons_ne_nil _ _)]
  exact (afterFrame_command (s := { s with idx := 3, timer := 0, requests := s.requests ++ gapped [c, k] }) hl).1.trans
    (beginWait_after_requests hlen (gapped [c, k]) { s with idx := 3, timer := 0 })

/-- Settles O16: the generic frame, then the three named ones from it. -/
theorem commandFrameSent : Obligations.CommandFrameSent := by
  unfold Obligations.CommandFrameSent
  refine ⟨fun s c k l l' hl h hc => congrArg _ (command_passes hl h hc), fun s h hc => ?_, fun s h hc => ?_, fun s h hc => ?_⟩
  · exact congrArg _ (command_passes (l' := .hsRstAck) (by decide) h hc)
  · exact congrArg _ (command_passes (l' := .feC36Ack) (by decide) h hc)
  · exact congrArg _ (command_passes (l' := .feC23Ack) (by decide) h hc)

/-- Settles O20: the header and TXB as one transmission. -/
theorem setupWriteSent : Obligations.SetupWriteSent := by
  unfold Obligations.SetupWriteSent
  intro s content ck h htxb
  have hq := h.1
  have hout : outFrame s = 0xA5 :: 0x19 :: (content.toList ++ [ck]) := by
    rw [outFrame_write hq, htxb]
    rfl
  have hlen : (0x19 :: (content.toList ++ [ck])).length + 1 = 34 := by simp
  refine congrArg Host.Outcome.next ((passFrame_sends h rfl hout (List.cons_ne_nil _ _)).trans ?_)
  rw [hlen]
  exact (afterFrame_suWrTx (by exact hq) .ok).trans (beginWait_after_requests rfl _ { s with idx := 34, timer := 0 })

/-! ### Frames coming in -/

/-- A wait for more bytes that gets the next of them reads on. -/
theorem arrive_at_wait_next {s : State} {b : Byte} (hu : s.sub = .rd) (hh : s.held = [])
    (hb : (awaited s.seq)[s.matched.toNat]? = some b) (hl : (s.matched + 1).toNat ≠ (awaited s.seq).length)
    (rest : List Byte) :
    arrive (b :: rest) s = arrive rest (issueRead s.seq { s with matched := s.matched + 1 }) := by
  have ha : awaited s.seq ≠ [] := by
    intro ha
    simp [ha] at hb
  rw [arrive_at_wait hu hh ha, waitAnswer_next s b hb hl]
  rfl

/-- A wait that gets its last byte is handed back to the operation. -/
theorem arrive_at_wait_last {s : State} {b : Byte} (hu : s.sub = .rd) (hh : s.held = [])
    (hb : (awaited s.seq)[s.matched.toNat]? = some b) (hl : (s.matched + 1).toNat = (awaited s.seq).length)
    (rest : List Byte) :
    arrive (b :: rest) s = arrive rest (afterWait .ok { s with matched := s.matched + 1 }) := by
  have ha : awaited s.seq ≠ [] := by
    intro ha
    simp [ha] at hb
  rw [arrive_at_wait hu hh ha, waitAnswer_last s b hb hl]
  rfl

/-- Settles O18: three awaited bytes, one read each. -/
theorem cueReceived : Obligations.CueReceived := by
  unfold Obligations.CueReceived
  rintro s ⟨hq, hu, hm, hh⟩
  rw [exec_channel_in (by simp [hu]) rfl]
  refine congrArg Host.Outcome.next ?_
  calc arrive cueBytes s = arrive [0x23, 0x5C] (issueRead .suCue { s with matched := 1 }) := by
        have hnext := arrive_at_wait_next (b := 0xA5) hu hh (by rw [hq, hm]; rfl) (by rw [hq, hm]; decide) [0x23, 0x5C]
        rwa [hq, hm] at hnext
    _ = arrive [0x5C] (issueRead .suCue (issueRead .suCue { s with matched := 2 })) :=
        arrive_at_wait_next rfl (by exact hh) rfl (by show ¬2 = 3; decide) [0x5C]
    _ = arrive [] (issueWrite .suCueAckTx (issueRead .suCue (issueRead .suCue { s with matched := 3 }))) :=
        arrive_at_wait_last rfl (by exact hh) rfl rfl []
    _ = issueWrite .suCueAckTx (issueRead .suCue (issueRead .suCue { s with matched := 3 })) := arrive_nil _ hh
    _ = _ := by simp [issueRead, issueWrite, emit, standAt, outByte, sendsFrame, sendsCommand, ackByte, readLen]

/-- A read of several bytes is answered by as many arriving together (R43). -/
theorem arrive_body {s t : State} {bs : List Byte} (hu : s.sub = .rd) (hh : s.held = []) (hl : bs.length = readLen s.seq)
    (ht : answerRead (some bs) s = t) (rest : List Byte) : arrive (bs ++ rest) s = arrive rest t :=
  (arrive_append s bs rest hu hh hl).trans (congrArg (arrive rest) ht)

/-- FETCH before its checksum test: seed, record and the trailing byte read (R170, R171). -/
def frameRead (seed : Byte) (record : Vector Byte 21) (s : State) : State :=
  { s with
    matched := 1
    rtoMult := 42
    rtoConst := 440
    ck := seed ^^^ fold record.toList
    rxb := record
    seq := .feTrail
    sub := .rd
    requests := s.requests ++ [.setReadTimeout 42 440, .read 1, .read 21, .read 1] }

theorem frameRead_eq (s : State) (seed : Byte) (record : Vector Byte 21) :
    feAfterPayload (some record.toList) (feAfterSeed (some [seed]) (feAfterSync .ok { s with matched := 1 })) =
      frameRead seed record s := by
  simp [feAfterPayload, feAfterSeed, feAfterSync, frameRead, issueRead, setRto, emit, standAt, readLen]

theorem arrive_cstFrame {s : State} (h : FreshWait .feSync s) (seed trailing : Byte) (record : Vector Byte 21) :
    arrive (syncByte :: seed :: (record.toList ++ [trailing])) s =
      arrive [] (feAfterTrail (some [trailing]) (frameRead seed record s)) := by
  have hh := h.2.2.2
  calc arrive (syncByte :: seed :: (record.toList ++ [trailing])) s
      = arrive ([seed] ++ (record.toList ++ [trailing])) (feAfterSync .ok { s with matched := 1 }) := by
        rw [arrive_takes h rfl, afterWait_feSync (by exact h.1)]
        rfl
    _ = arrive (record.toList ++ [trailing]) (feAfterSeed (some [seed]) (feAfterSync .ok { s with matched := 1 })) :=
        arrive_body rfl (by exact hh) rfl (answerRead_seed rfl _) _
    _ = arrive ([trailing] ++ []) (frameRead seed record s) := by
        rw [← frameRead_eq]
        exact arrive_body rfl (by exact hh) (by simp [feAfterSeed, readLen]) (answerRead_payload rfl _) _
    _ = arrive [] (feAfterTrail (some [trailing]) (frameRead seed record s)) :=
        arrive_body rfl (by exact hh) rfl (answerRead_trail rfl _) []

/-- Settles O19: one frame read, then the three ends of the checksum test. -/
theorem controlsFrameReceived : Obligations.ControlsFrameReceived := by
  unfold Obligations.ControlsFrameReceived
  intro s seed trailing record h
  have hh : s.held = [] := h.2.2.2
  rw [exec_channel_in (by simp [h.2.1]) rfl]
  refine congrArg Host.Outcome.next ((arrive_cstFrame h seed trailing record).trans ?_)
  split
  · rename_i hck
    rw [feAfterTrail_valid _ _ ((ckCheck_iff _ _).mpr hck), arrive_nil _ (by exact hh)]
    simp [frameRead, issueWrite, emit, standAt, outByte, sendsFrame, sendsCommand, ackByte]
  · rename_i hck
    rw [feAfterTrail_invalid _ _ (fun hc => hck ((ckCheck_iff _ _).mp hc)), feLoop_raise]
    show arrive [] (if s.tries.toNat < 3 then _ else _) = _
    split <;> rw [arrive_nil _ (by exact hh)]
    · simp [waiting, frameRead]
    · rfl

/-- POLL before its fold test: the 8 bytes are to be read (R200). -/
theorem arrive_pollFrame {s : State} (h : FreshWait .poSync s) {p : List Byte} (hl : p.length = 8) :
    arrive (syncByte :: p) s =
      arrive [] (poAfterPayload (some p) (issueRead .poPayload { s with matched := 1 })) := by
  have hh := h.2.2.2
  calc arrive (syncByte :: p) s = arrive (p ++ []) (poAfterSync .ok { s with matched := 1 }) := by
        rw [arrive_takes h rfl, afterWait_poSync (by exact h.1), List.append_nil]
    _ = _ := arrive_body rfl (by exact hh) hl (answerRead_poll rfl _) []

/-- Settles O21: one frame read, then the two ends of the fold test. -/
theorem pollFrameReceived : Obligations.PollFrameReceived := by
  unfold Obligations.PollFrameReceived
  intro s p0 p1 p2 p3 p4 p5 p6 p7 h
  have hh : s.held = [] := h.2.2.2
  rw [exec_channel_in (by simp [h.2.1]) rfl]
  refine congrArg Host.Outcome.next ((arrive_pollFrame h rfl).trans ?_)
  split
  · rename_i hf
    rw [poAfterPayload_valid _ _ hf, arrive_nil _ (by exact hh), hf]
    simp [issueRead, issueWrite, emit, standAt, outByte, sendsFrame, sendsCommand, ackByte, readLen, storePoll]
  · rename_i hf
    rw [poAfterPayload_invalid _ _ hf, arrive_nil _ (by exact hh)]
    rfl

end Sys2Proof.Machine
end

section
/-! Runs of the delay timer (spec/41_primitives.md R134), and failed answers (spec/60_exceptions.md section 2). -/

namespace Sys2Proof.Machine

/-! ### Ticks (R134, R246) -/

theorem tick_counts {s : State} (hu : s.sub = .dly) (h : 1 < s.timer) : tick s = { s with timer := s.timer - 1 } :=
  (if_pos hu).trans (if_pos h)

theorem tick_ends {s : State} (hu : s.sub = .dly) (h : ¬1 < s.timer) : tick s = endDelay s :=
  (if_pos hu).trans (if_neg h)

theorem run_add (m n : Nat) (s t : State) (h : Host.Core.run Sys2Proof.core m s = .next t) :
    Host.Core.run Sys2Proof.core (m + n) s = Host.Core.run Sys2Proof.core n t := by
  induction m generalizing s with
  | zero =>
    cases h
    rw [Nat.zero_add]
  | succ m ih =>
    obtain ⟨u, hu⟩ := everyStepAnswersNext s
    rw [run_succ m s u hu] at h
    rw [Nat.succ_add, run_succ (m + n) s u hu]
    exact ih u h

theorem run_one {s t : State} (h : step s = .next t) : Host.Core.run Sys2Proof.core 1 s = .next t :=
  run_succ 0 s t h

/-- Fewer ticks than the timer holds only count it down. -/
theorem run_ticks_counting (rest : List Input) : ∀ (k : Nat) (s : State), s.sub = .dly → k < s.timer.toNat →
    Host.Core.run Sys2Proof.core k { s with inbox := List.replicate k .tick ++ rest } =
      .next { s with timer := s.timer - BitVec.ofNat 6 k, inbox := rest }
  | 0, s, _, _ => by
    rw [show s.timer - BitVec.ofNat 6 0 = s.timer from BitVec.sub_zero _]
    rfl
  | k + 1, s, hu, hk => by
    have h1 : 1 < s.timer := by
      show 1 < s.timer.toNat
      omega
    have hsub : (s.timer - 1).toNat = s.timer.toNat - 1 := BitVec.toNat_sub_of_le (Nat.le_of_lt h1)
    have hstep : step { s with inbox := List.replicate (k + 1) .tick ++ rest } =
        .next { s with timer := s.timer - 1, inbox := List.replicate k .tick ++ rest } :=
      congrArg Host.Outcome.next (tick_counts (s := { s with inbox := _ }) hu h1)
    have hval : s.timer - 1 - BitVec.ofNat 6 k = s.timer - BitVec.ofNat 6 (k + 1) := by
      rw [BitVec.ofNat_add, BitVec.sub_sub, BitVec.add_comm]
      rfl
    rw [run_succ _ _ _ hstep, ← hval]
    exact run_ticks_counting rest k { s with timer := s.timer - 1 } hu (by show k < (s.timer - 1).toNat; omega)

/-- As many ticks as the timer holds end the delay. -/
theorem run_ticks {s : State} {n : Nat} (hu : s.sub = .dly) (hn : s.timer.toNat = n) (h1 : 1 ≤ n) (rest : List Input) :
    Host.Core.run Sys2Proof.core n { s with inbox := List.replicate n .tick ++ rest } =
      .next (endDelay { s with inbox := rest }) := by
  obtain ⟨k, rfl⟩ : ∃ k, n = k + 1 := ⟨n - 1, by omega⟩
  have hlast : ¬1 < s.timer - BitVec.ofNat 6 k := by
    show ¬1 < (s.timer - BitVec.ofNat 6 k).toNat
    have := s.timer.isLt
    rw [BitVec.toNat_sub, BitVec.toNat_ofNat]
    omega
  have hcount := run_ticks_counting ([.tick] ++ rest) k s hu (by omega)
  rw [List.replicate_succ', List.append_assoc, run_add k 1 _ _ hcount]
  refine run_one (congrArg Host.Outcome.next ?_)
  exact tick_ends (s := { s with timer := s.timer - BitVec.ofNat 6 k, inbox := rest }) hu hlast

/-- Settles O35: the ticks before the last count, the last ends the delay. -/
theorem delayLastsItsTicks : Obligations.DelayLastsItsTicks := by
  unfold Obligations.DelayLastsItsTicks
  exact fun s rest hu ht => ⟨fun k hk => run_ticks_counting rest k s hu hk, run_ticks hu rfl ht rest⟩

/-! ### A transmission, event by event (R132, R270) -/

/-- The elementary events of a transmission of `n + 1` bytes: each write granted, 42 ticks between two. -/
def transmission : Nat → List Input
  | 0 => [.grant]
  | n + 1 => .grant :: (List.replicate 42 .tick ++ transmission n)

theorem step_grant_write {s : State} {rest : List Input} (hin : s.inbox = .grant :: rest) (hu : s.sub = .wr) :
    step s = .next (answerWrite true { s with inbox := rest }) := by
  rw [step_cons hin, handle_grant]
  simp only [grant, hu]

/-- The elementary events of a transmission do what its bytes do in one step. -/
theorem run_transmission (rest : List Input) : ∀ (n : Nat) (s : State), s.sub = .wr → sendsFrame s.seq = true →
    s.idx.toNat + (n + 1) = (outFrame s).length →
    Host.Core.run Sys2Proof.core (43 * n + 1) { s with inbox := transmission n ++ rest } =
      .next (sendBytes (n + 1) { s with inbox := rest })
  | 0, s, hu, _, _ => run_one (step_grant_write (s := { s with inbox := _ }) rfl hu)
  | n + 1, s, hu, hf, hn => by
    have hidx : (s.idx + 1).toNat = s.idx.toNat + 1 := idx_succ (by omega)
    have hgap : ∀ inbox, answerWrite true { s with inbox := inbox } =
        { beginDelay s.seq gapMs { s with idx := s.idx + 1 } with inbox := inbox } := fun inbox =>
      answerWrite_gap { s with inbox := inbox } hf (by show (s.idx + 1).toNat ≠ (outFrame s).length; omega)
    generalize hd : beginDelay s.seq gapMs { s with idx := s.idx + 1 } = d at hgap
    have hnext : ∀ inbox, endDelay { d with inbox := inbox } =
        { issueWrite s.seq { d with timer := 0 } with inbox := inbox } := fun inbox => by
      subst hd
      exact endDelay_gap _ hf
    have hticks := run_ticks (s := d) (n := 42) (by rw [← hd]; rfl) (by rw [← hd]; rfl) (by decide) (transmission n ++ rest)
    rw [hnext] at hticks
    have hstart : step { s with inbox := transmission (n + 1) ++ rest } =
        .next { d with inbox := List.replicate 42 .tick ++ (transmission n ++ rest) } := by
      rw [transmission, List.cons_append, List.append_assoc]
      exact (step_grant_write (s := { s with inbox := _ }) rfl hu).trans (congrArg Host.Outcome.next (hgap _))
    have hrest := run_transmission rest n (issueWrite s.seq { d with timer := 0 }) rfl hf (by
      subst hd
      show (s.idx + 1).toNat + (n + 1) = (outFrame s).length
      omega)
    rw [show 43 * (n + 1) + 1 = 42 + (43 * n + 1) + 1 by omega, run_succ _ _ _ hstart, run_add 42 _ _ _ hticks, hrest,
      sendBytes, hgap, hnext]

/-- Settles O17: `run_transmission` at three bytes. -/
theorem commandFrameIsWritesAndGaps : Obligations.CommandFrameIsWritesAndGaps := by
  unfold Obligations.CommandFrameIsWritesAndGaps
  rintro s c k l hl ⟨rfl, hu, hi⟩ hc
  have hcmd : sendsCommand s.seq = true := by rcases hl with hq | hq | hq <;> rw [hq] <;> rfl
  have hout : outFrame s = [0xA5, c, k] := by rw [outFrame_command hcmd, hc]; rfl
  have hf := sendsFrame_of_command hcmd
  have hpass : exec (.cmd c k) s = .next (sendBytes 3 s) :=
    congrArg Host.Outcome.next (passFrame_out ((aboutToSend_iff _ s).mpr ⟨hu, hi, hf, hout⟩))
  rw [hpass]
  exact run_transmission s.inbox 2 s hu hf (by rw [hi, hout]; rfl)

/-! ### Failed answers (R45, R46, R236) -/

theorem deny_read {s : State} (hu : s.sub = .rd) (lost : Nat) :
    deny lost s = answerRead none { s with held := s.held.drop lost } := by
  simp only [deny, hu]

theorem deny_write {s : State} (hu : s.sub = .wr) (lost : Nat) : deny lost s = answerWrite false s := by
  simp only [deny, hu]

section

variable {s : State} {lost : Nat} {rest : List Input} (hin : s.inbox = .deny lost :: rest)
include hin

theorem step_deny_body (hu : s.sub = .rd) :
    step s = .next (answerRead none { s with held := s.held.drop lost, inbox := rest }) :=
  (step_cons hin).trans (congrArg Host.Outcome.next (deny_read (s := { s with inbox := rest }) hu lost))

theorem step_deny_wait (hu : s.sub = .rd) (hb : readsBody s.seq = false) :
    step s = .next (afterWait (.err .timeout) { s with held := s.held.drop lost, inbox := rest }) := by
  rw [step_deny_body hin hu, answerRead_wait (by exact hb)]
  rfl

theorem step_deny_write (hu : s.sub = .wr) : step s = .next (answerWrite false { s with inbox := rest }) :=
  (step_cons hin).trans (congrArg Host.Outcome.next (deny_write (s := { s with inbox := rest }) hu lost))

theorem step_deny_frame (hu : s.sub = .wr) (hf : sendsFrame s.seq = true) :
    step s = .next (afterFrame (.err .shortTransfer) { s with inbox := rest }) := by
  rw [step_deny_write hin hu, answerWrite_refused _ (by exact hf)]

theorem step_deny_byte (hu : s.sub = .wr) (hf : sendsFrame s.seq = false) :
    step s = .next (afterByte (.err .shortTransfer) { s with inbox := rest }) := by
  rw [step_deny_write hin hu, answerWrite_byte (by exact hf)]
  rfl

end

/-- Settles O36: at each of these labels the failed answer is a return. -/
theorem failureWithoutRetry : Obligations.FailureWithoutRetry := by
  unfold Obligations.FailureWithoutRetry
  refine fun s lost rest hin => ⟨fun hl hu => ?_, fun hq hu => ?_, fun hl hu => ?_⟩
  · have hb : readsBody s.seq = false := by rcases hl with hq | hq | hq <;> rw [hq] <;> rfl
    rw [step_deny_wait hin hu hb]
    rcases hl with hq | hq | hq
    · rw [afterWait_poSync (by exact hq)]; rfl
    · rw [afterWait_feC36Ack (by exact hq)]; rfl
    · rw [afterWait_feC23Ack (by exact hq)]; rfl
  · rw [step_deny_body hin hu, answerRead_poll (by exact hq)]
    rfl
  · rcases hl with hq | hq | hq
    · rw [step_deny_byte hin hu (by rw [hq]; rfl), afterByte_poAckTx (by exact hq)]; rfl
    · rw [step_deny_frame hin hu (by rw [hq]; rfl), afterFrame_feC36Tx (by exact hq)]; rfl
    · rw [step_deny_frame hin hu (by rw [hq]; rfl), afterFrame_feC23Tx (by exact hq)]; rfl

/-- Settles O37: at each label of the frame loop the failed answer raises its kind. -/
theorem fetchRetriesFailures : Obligations.FetchRetriesFailures := by
  unfold Obligations.FetchRetriesFailures
  intro s lost rest k held hin hcase
  have hloop : step s = .next (feLoop (raiseErr k { s with held := held, inbox := rest })) := by
    rcases hcase with ⟨hq, hu, rfl, rfl⟩ | ⟨hq | hq | hq, hu, rfl, rfl⟩ | ⟨hq, hu, rfl, rfl⟩
    · rw [step_deny_wait hin hu (by rw [hq]; rfl), afterWait_feSync (by exact hq)]; rfl
    · rw [step_deny_body hin hu, answerRead_seed (by exact hq)]; rfl
    · rw [step_deny_body hin hu, answerRead_payload (by exact hq)]; rfl
    · rw [step_deny_body hin hu, answerRead_trail (by exact hq)]; rfl
    · rw [step_deny_byte hin hu (by rw [hq]; rfl), afterByte_feAckTx (by exact hq)]; rfl
  rw [hloop, feLoop_raise]

/-- Settles O38: each stage's failed answers raise their kind in the loop of that stage. -/
theorem setupRetriesFailures : Obligations.SetupRetriesFailures := by
  unfold Obligations.SetupRetriesFailures
  refine fun s lost rest hin => ⟨fun k held hcase => ?_, fun k held hcase => ?_⟩
  · have hloop : step s = .next (suCueLoop (raiseErr k { s with held := held, inbox := rest })) := by
      rcases hcase with ⟨hq, hu, rfl, rfl⟩ | ⟨hq, hu, rfl, rfl⟩
      · rw [step_deny_wait hin hu (by rw [hq]; rfl), afterWait_suCue (by exact hq)]; rfl
      · rw [step_deny_byte hin hu (by rw [hq]; rfl), afterByte_suCueAckTx (by exact hq)]; rfl
    rw [hloop, suCueLoop_raise]
  · have hloop : step s = .next (suWriteLoop (raiseErr k { s with held := held, inbox := rest })) := by
      rcases hcase with ⟨hq, hu, rfl, rfl⟩ | ⟨hq, hu, rfl, rfl⟩
      · rw [step_deny_wait hin hu (by rw [hq]; rfl), afterWait_suWrAck (by exact hq)]; rfl
      · rw [step_deny_frame hin hu (by rw [hq]; rfl), afterFrame_suWrTx (by exact hq)]; rfl
    rw [hloop, suWriteLoop_raise]

theorem step_deny_probe {s : State} {lost : Nat} {rest : List Input}
    (hin : s.inbox = .deny lost :: rest)
    (hq : s.seq = .hsProbe) (hu : s.sub = .rd) :
    step s = .next (resetCommand { s with tries := 1, held := s.held.drop lost, inbox := rest }) := by
  rw [step_deny_wait hin hu (by rw [hq]; rfl), afterWait_hsProbe (by exact hq), hsAfterProbe, hsResetLoop, attemptLoop_first,
    sendCommand_eq rfl]
  rfl

theorem step_deny_hsSync {s : State} {lost : Nat} {rest : List Input}
    (hin : s.inbox = .deny lost :: rest)
    (hq : s.seq = .hsSync) (hu : s.sub = .rd) :
    step s = .next (issueWrite .hsNudge { s with held := s.held.drop lost, inbox := rest }) := by
  rw [step_deny_wait hin hu (by rw [hq]; rfl), afterWait_hsSync (by exact hq)]
  rfl

/-- Settles O39: the probe, the loop of step 2 and step 3. -/
theorem handshakeGoesOnAfterFailures : Obligations.HandshakeGoesOnAfterFailures := by
  unfold Obligations.HandshakeGoesOnAfterFailures
  refine fun s lost rest hin => ⟨step_deny_probe hin, fun held hcase => ?_, step_deny_hsSync hin⟩
  have hloop : step s = .next (hsResetLoop { s with held := held, inbox := rest }) := by
    rcases hcase with ⟨hq, hu, rfl⟩ | ⟨hq, hu, rfl⟩
    · rw [step_deny_frame hin hu (by rw [hq]; rfl), afterFrame_hsRstTx (by exact hq)]; rfl
    · rw [step_deny_wait hin hu (by rw [hq]; rfl), afterWait_hsRstAck (by exact hq)]; rfl
  rw [hloop, hsResetLoop_eq]

/-- The failed end of the procedure is a return, whose result the operation names (R150, R156). -/
theorem hsFailed_eq (s : State) :
    hsFailed s =
      returned (if s.op = .teardown then ⟨true, true, .none⟩ else ⟨true, false, .timeout⟩) { s with hsState := .idle } := by
  unfold hsFailed
  split <;> rfl

/-- Settles O14: the nudge's answer is ignored, so its acceptance and its failure are one line. -/
theorem nudgeEndsThePass : Obligations.NudgeEndsThePass := by
  unfold Obligations.NudgeEndsThePass
  intro s lost rest hq hu
  have hack : ∀ t : State, t.seq = .hsNudge → t.sub = .wr → exec .ack t = .next (hsAfterNudge t) := fun t hq hu => by
    rw [execAck_out hu (by rw [hq]; rfl), afterByte_hsNudge hq]
  refine ⟨?_, fun hin => ?_⟩
  · rw [hack s hq hu, hsAfterNudge]
    split
    · rw [hsPass, beginWait_eq_waiting rfl]
    · exact congrArg _ (hsFailed_eq _)
  · rw [hack _ (by exact hq) (by exact hu), step_deny_byte hin hu (by rw [hq]; rfl), afterByte_hsNudge (by exact hq)]

end Sys2Proof.Machine
end

section
/-! Waits over held and arriving bytes (spec/41_primitives.md R136), and whole exchanges. -/

namespace Sys2Proof.Machine

/-! ### Skipping (R136, D5) -/

/-- A wait for one byte that has skipped `k` more. -/
def skipping (k : Nat) (s : State) : State :=
  { s with skip := s.skip + BitVec.ofNat 16 k, requests := s.requests ++ List.replicate k (.read 1) }

theorem skipping_zero (s : State) : skipping 0 s = s := by
  simp [skipping]

theorem skipping_succ (k : Nat) (s : State) : skipping k (skipping 1 s) = skipping (k + 1) s := by
  have hskip : s.skip + BitVec.ofNat 16 1 + BitVec.ofNat 16 k = s.skip + BitVec.ofNat 16 (k + 1) := by
    rw [BitVec.add_assoc, ← BitVec.ofNat_add, Nat.add_comm 1 k]
  simp [skipping, hskip, List.replicate_succ]

theorem skip_add_toNat {s : State} {k : Nat} (h : s.skip.toNat + k ≤ s.params.waitSkipMax.toNat) :
    (s.skip + BitVec.ofNat 16 k).toNat = s.skip.toNat + k := by
  have := s.params.waitSkipMax.isLt
  rw [BitVec.toNat_add, BitVec.toNat_ofNat]
  omega

theorem skip_ne_max {s : State} (h : s.skip.toNat < s.params.waitSkipMax.toNat) : s.skip ≠ s.params.waitSkipMax := by
  intro he
  rw [he] at h
  omega

/-- Other bytes within the budget are skipped, one read each. -/
theorem arrive_skips {b : Byte} (rest : List Byte) : ∀ (junk : List Byte) (s : State), s.sub = .rd → s.matched = 0 →
    s.held = [] → awaited s.seq = [b] → (∀ x ∈ junk, x ≠ b) →
    s.skip.toNat + junk.length ≤ s.params.waitSkipMax.toNat →
    arrive (junk ++ rest) s = arrive rest (skipping junk.length s)
  | [], s, _, _, _, _, _, _ => by rw [List.length_nil, skipping_zero, List.nil_append]
  | x :: junk, s, hu, hm, hh, ha, hne, hle => by
    rw [List.length_cons] at hle
    have hxb : b ≠ x := (hne x List.mem_cons_self).symm
    have hx : (awaited s.seq)[s.matched.toNat]? ≠ some x := by simpa [ha, hm] using hxb
    have hlen := (wait_reads_one (l := s.seq) (by simp [ha])).1
    have hone : arrive (x :: junk ++ rest) s = arrive (junk ++ rest) (skipping 1 s) := by
      rw [List.cons_append, arrive_at_wait hu hh (by simp [ha]), waitAnswer_skip s x hx (skip_ne_max (by omega))]
      simp [goOn, skipping, issueRead, emit, standAt, ha, hxb, hm, hu, hlen]
    have hskip : (skipping 1 s).skip.toNat = s.skip.toNat + 1 := skip_add_toNat (by omega)
    rw [hone, arrive_skips rest junk (skipping 1 s) hu hm hh ha (fun y hy => hne y (List.mem_cons_of_mem _ hy))
      (by rw [hskip]; show _ ≤ s.params.waitSkipMax.toNat; omega), skipping_succ, List.length_cons]

/-- Settles O32: the bytes skipped, then the one that ends the wait. -/
theorem waitSkipsThenTakesOrGivesUp : Obligations.WaitSkipsThenTakesOrGivesUp := by
  unfold Obligations.WaitSkipsThenTakesOrGivesUp
  intro s b bs junk rest hu hm ha hne hskip
  refine ⟨fun heq hle => ?_, fun heq hlen => ?_, fun heq hle => ?_⟩
  · rw [arrive_held, heq, arrive_skips _ junk { s with held := [] } hu hm rfl ha hne hle,
      arrive_at_wait_last (by exact hu) rfl (by simp [skipping, ha, hm]) (by simp [skipping, ha, hm])]
    simp [skipping, hm]
  · have hbudget : s.skip.toNat ≤ s.params.waitSkipMax.toNat := hskip
    have hne' : junk ≠ [] := by
      rintro rfl
      simp at hlen
      omega
    obtain ⟨front, x, rfl⟩ : ∃ front x, junk = front ++ [x] :=
      ⟨_, _, (List.dropLast_append_getLast hne').symm⟩
    simp only [List.length_append, List.length_singleton] at hlen
    have hle : s.skip.toNat + front.length ≤ s.params.waitSkipMax.toNat := by omega
    have hmax : s.skip + BitVec.ofNat 16 front.length = s.params.waitSkipMax :=
      BitVec.eq_of_toNat_eq (by rw [skip_add_toNat hle]; omega)
    have hx : x ≠ b := hne x (by simp)
    rw [arrive_held, heq, List.append_assoc, arrive_skips _ front { s with held := [] } hu hm rfl ha
      (fun y hy => hne y (by simp [hy])) hle, List.singleton_append, arrive_at_wait (by exact hu) rfl (by simp [skipping, ha]),
      waitAnswer_timeout _ x (by simpa [skipping, ha, hm] using hx.symm) (by exact hmax) (by simp [skipping, ha])]
    simp [goOn, skipping, hmax]
  · have hend := arrive_skips [] junk { s with held := [] } hu hm rfl ha hne hle
    rw [List.append_nil] at hend
    rw [arrive_held, heq, hend, arrive_nil _ rfl]
    rfl

/-- Settles O33: the byte that does not fit is skipped, or ends the attempt. -/
theorem cueWaitMismatch : Obligations.CueWaitMismatch := by
  unfold Obligations.CueWaitMismatch
  rintro s b bs rest k hq hu hm hb heq rfl
  have hb' : (awaited s.seq)[s.matched.toNat]? ≠ some b := by rw [hq]; exact hb
  rw [arrive_held, heq, arrive_at_wait (by exact hu) rfl (by rw [hq]; exact List.cons_ne_nil _ _)]
  refine congrArg (arrive rest) ?_
  by_cases hs : s.skip = s.params.waitSkipMax
  · rw [if_pos hs]
    by_cases h1 : 1 ≤ s.matched.toNat
    · rw [if_pos h1, waitAnswer_violation { s with held := [] } b hb' hs ⟨by rw [hq]; decide, h1⟩]
      exact (afterWait_suCue (by exact hq) _).trans (suCueLoop_raise _ _)
    · rw [if_neg h1, waitAnswer_timeout { s with held := [] } b hb' hs (fun h => h1 h.2)]
      exact (afterWait_suCue (by exact hq) _).trans (suCueLoop_raise _ _)
  · rw [if_neg hs, waitAnswer_skip { s with held := [] } b hb' hs]
    simp [goOn, issueRead, emit, standAt, hq, hu, awaited, cueBytes, readLen, eq_comm]

/-! ### Whole exchanges -/

/-- Settles O40: the frame is valid by its trailing byte, and the acknowledge delivers it. -/
theorem fetchAcceptsCorrectFrames : Obligations.FetchAcceptsCorrectFrames := by
  unfold Obligations.FetchAcceptsCorrectFrames
  intro s seed record h
  have hck : seed ^^^ fold record.toList ^^^ (seed ^^^ fold record.toList ^^^ 0x7F) = 0x7F := by
    rw [← BitVec.xor_assoc, BitVec.xor_self, BitVec.zero_xor]
  have hframe := controlsFrameReceived s seed (seed ^^^ fold record.toList ^^^ 0x7F) record h
  rw [if_pos hck] at hframe
  exact ⟨_, _, hframe, (ackSent _ rfl).1 rfl, rfl, rfl, rfl, rfl, rfl⟩

/-- 28 ticks settle, and the setup write begins with its first attempt (R186). -/
theorem run_settle {s : State} (hq : s.seq = .suSettle) (hu : s.sub = .dly) (ht : s.timer.toNat = 28) (rest : List Input) :
    Host.Core.run Sys2Proof.core 28 { s with inbox := List.replicate 28 .tick ++ rest } =
      .next (beginFrame .suWrTx { s with timer := 0, tries := 1, inbox := rest }) := by
  rw [run_ticks hu ht (by decide) rest, endDelay_settle (by exact hq), suAfterSettle, suWriteLoop, attemptLoop_first]

/-- Settles O41: the five exchanges one after another. -/
theorem setupCompletes : Obligations.SetupCompletes := by
  unfold Obligations.SetupCompletes
  intro s content ck rest h htxb
  have hh : s.held = [] := h.2.2.2
  refine ⟨_, _, _, _, _, cueReceived s h, (ackSent _ rfl).2.1 rfl, run_settle rfl rfl rfl rest,
    setupWriteSent _ content ck (by exact ⟨rfl, rfl, rfl⟩) (by exact htxb), (ackReceived _).2.2.2 ⟨rfl, rfl, rfl, by exact hh⟩,
    rfl, rfl, rfl, rfl, rfl, rfl, rfl, rfl⟩

theorem exec_ack_delivers {s : State} {e : EventRec} (hu : s.sub = .wr) (hq : s.seq = .poAckTx)
    (hd : decodeEvent s.params s.rxb[4] s.rxb[5] s.rxb[6] = some e) : exec .ack s = .next (pollDelivers e s) := by
  rw [(ackSent s hu).2.2 hq, hd]

/-- Settles O42: the frame is valid by its fold, and the acknowledge delivers its decode. -/
theorem pollDeliversTheDecode : Obligations.PollDeliversTheDecode := by
  unfold Obligations.PollDeliversTheDecode
  intro s p0 p1 p2 p3 p4 p5 p6 p7 e h hf hd
  have hframe := pollFrameReceived s p0 p1 p2 p3 p4 p5 p6 p7 h
  rw [if_pos hf] at hframe
  refine ⟨_, _, hframe, exec_ack_delivers rfl rfl (by simpa using hd), ?_, rfl, rfl, rfl, rfl, rfl, rfl, rfl⟩
  simp [pollDelivers, returned, decodeMotion]

/-! ### A silent handshake pass (R153) -/

/-- The engine at the acknowledge wait of a reset command whose frame has gone out, the next two inputs taken (R150). -/
def resetSent (s : State) : State :=
  waiting .hsRstAck (gapped [0x16, 0x4C]) { resetCommand s with idx := 3, timer := 0, inbox := s.inbox.drop 2 }

/-- A reset command goes out as one transfer. -/
theorem step_resetFrame {s : State} {rest : List Input} (hin : s.inbox = .frame [0xA5, 0x16, 0x4C] :: rest)
    (h : FreshFrame .hsRstTx s) (hc : s.cmdb = #v[0xA5, 0x16, 0x4C]) :
    step s = .next (waiting .hsRstAck (gapped [0x16, 0x4C]) { s with idx := 3, timer := 0, inbox := rest }) := by
  have hdec : decode .channel [0xA5, 0x16, 0x4C] = .ok .cmdReset := rfl
  rw [step_cons hin, handle, runFrame_ok hdec]
  exact (if_pos rfl).trans (commandFrameSent.2.1 { s with inbox := rest } h hc)

/-- One reset command against a silent console: the frame goes out, and its acknowledge fails. -/
theorem run_silentCommand {s : State} {rest : List Input} (hin : s.inbox = .frame [0xA5, 0x16, 0x4C] :: .deny 0 :: rest) :
    Host.Core.run Sys2Proof.core 2 (resetCommand s) = .next (hsResetLoop (resetSent s)) := by
  rw [run_succ 1 _ _ (step_resetFrame (s := resetCommand s) hin ⟨rfl, rfl, rfl⟩ rfl)]
  refine run_one ((step_deny_wait (rest := rest) rfl rfl rfl).trans ?_)
  rw [afterWait_hsRstAck rfl, resetSent, hin]
  rfl

/-- The three reset commands of a silent pass, up to the wait of step 3. -/
def resetsSent (s : State) : State :=
  resetSent { resetSent { resetSent { s with tries := 1 } with tries := 2 } with tries := 3 }

theorem run_silentCommands {s : State} {rest : List Input}
    (hin : s.inbox =
      [.frame [0xA5, 0x16, 0x4C], .deny 0, .frame [0xA5, 0x16, 0x4C], .deny 0, .frame [0xA5, 0x16, 0x4C], .deny 0] ++ rest) :
    Host.Core.run Sys2Proof.core 6 (resetCommand { s with tries := 1 }) =
      .next (waiting .hsSync [] { resetsSent s with hsState := .awaitingSync }) := by
  have hfirst := run_silentCommand (s := { s with tries := 1 }) hin
  have hsecond := run_silentCommand (s := { resetSent { s with tries := 1 } with tries := 2 }) (congrArg (List.drop 2) hin)
  have hthird := run_silentCommand (s := { resetSent { resetSent { s with tries := 1 } with tries := 2 } with tries := 3 })
    (rest := rest) (congrArg (fun inbox => (inbox.drop 2).drop 2) hin)
  rw [hsResetLoop_eq] at hfirst hsecond hthird
  exact (run_add 2 4 _ _ hfirst).trans ((run_add 2 2 _ _ hsecond).trans hthird)

/-- The engine at the nudge of a silent pass that began in `s`. -/
def atNudge (rest : List Input) (s : State) : State :=
  issueWrite .hsNudge
    (waiting .hsSync [] { resetsSent { s with inbox := s.inbox.tail } with hsState := .awaitingSync, inbox := rest })

/-- A silent pass: the probe, the reset commands, step 3 and the nudge. -/
theorem run_silentPass {s : State} {rest : List Input} (hq : s.seq = .hsProbe) (hu : s.sub = .rd)
    (hin : s.inbox =
      [.deny 0, .frame [0xA5, 0x16, 0x4C], .deny 0, .frame [0xA5, 0x16, 0x4C], .deny 0, .frame [0xA5, 0x16, 0x4C],
        .deny 0, .deny 0, .grant] ++ rest) :
    Host.Core.run Sys2Proof.core 9 s = .next (hsAfterNudge (atNudge rest s)) := by
  have hprobe : step s = .next (resetCommand { s with tries := 1, inbox := s.inbox.tail }) := by
    rw [step_deny_probe hin hq hu, hin]
    rfl
  have hresets := run_silentCommands (s := { s with inbox := s.inbox.tail }) (congrArg List.tail hin)
  unfold atNudge
  have hleft : (resetsSent { s with inbox := s.inbox.tail }).inbox = .deny 0 :: .grant :: rest :=
    congrArg (fun inbox => ((inbox.tail.drop 2).drop 2).drop 2) hin
  generalize resetsSent { s with inbox := s.inbox.tail } = w at hresets hleft ⊢
  have hsync := step_deny_hsSync (s := waiting .hsSync [] { w with hsState := .awaitingSync }) hleft rfl rfl
  have hnudge := step_grant_write (rest := rest)
    (s := issueWrite .hsNudge (waiting .hsSync [] { w with hsState := .awaitingSync, inbox := .grant :: rest })) rfl rfl
  exact (run_succ 8 _ _ hprobe).trans ((run_add 6 2 _ _ hresets).trans ((run_succ 1 _ _ hsync).trans (run_one hnudge)))

/-- The requests of a silent pass up to the nudge. -/
def silentPass : List Request :=
  .write 0xA5 :: (gapped [0x16, 0x4C] ++ [.setReadTimeout 0 500, .read 1]) ++
    .write 0xA5 :: (gapped [0x16, 0x4C] ++ [.setReadTimeout 0 500, .read 1]) ++
    .write 0xA5 :: (gapped [0x16, 0x4C] ++ [.setReadTimeout 0 500, .read 1]) ++
    [.setReadTimeout 0 500, .read 1, .write 0x06]

theorem atNudge_requests (rest : List Input) (s : State) : (atNudge rest s).requests = s.requests ++ silentPass := by
  simp [atNudge, silentPass, resetsSent, resetSent, resetCommand, waiting, gapped, waitBound, outByte, sendsFrame, sendsCommand,
    ackByte]

/-- Settles O43: the pass ends with the nudge, and then the next pass begins or the handshake has failed. -/
theorem silentHandshakePass : Obligations.SilentHandshakePass := by
  unfold Obligations.SilentHandshakePass
  intro s rest hq hu _ hin
  rw [run_silentPass hq hu hin]
  by_cases hp : s.pass + 1 < passesOf s.params
  · refine ⟨_, silentPass ++ [.setReadTimeout 0 50, .read 1], congrArg _ (if_pos hp), ?_, rfl, rfl, rfl, rfl, ?_⟩
    · rw [hsPass, beginWait_eq_waiting rfl, waiting]
      simp [atNudge_requests, waitBound]
    · rw [if_pos hp]
      exact ⟨rfl, rfl, rfl, rfl, rfl⟩
  · refine ⟨_, silentPass, congrArg _ ((if_neg hp).trans (hsFailed_eq _)), atNudge_requests rest s, rfl, rfl, rfl, rfl, ?_⟩
    rw [if_neg hp]
    exact ⟨rfl, rfl, rfl, rfl, rfl⟩

end Sys2Proof.Machine
end

section
/-! The classifier (spec/45_poll.md section on the event arms) and the checksum and setup buffer (spec/40_codec.md). -/

namespace Sys2Proof.Machine

/-! ### The classifier (R208) -/

/-- What POLL makes of a classified frame: its event delivered, or a protocol violation (R200). -/
theorem pollFinish_eq (d : Option EventRec) (s : State) :
    pollFinish d s = d.elim (returned ⟨true, false, .protocolViolation⟩ s) (pollDelivers · s) := by
  cases d <;> rfl

/-- A trim id gives the down button, the up button, or nothing (R122, R211). -/
theorem armTrim_elim {α : Type} (id v1 : Byte) (n : α) (f : EventRec → α) :
    (armTrim id v1).elim n f =
      if v1 = 1 then f ⟨.button, if id = 0x3E then 0x80 else 0x82, 0⟩
      else if v1 = 2 then f ⟨.button, (if id = 0x3E then 0x80 else 0x82) + 1, 0⟩
      else n := by
  unfold armTrim trimControl
  split
  · rfl
  · split <;> rfl

/-- Settles O23: each row finishes POLL with its own arm. -/
theorem fixedIdRowsFinishPoll : Obligations.FixedIdRowsFinishPoll := by
  unfold Obligations.FixedIdRowsFinishPoll
  refine fun s => ⟨rfl, rfl, rfl, rfl, congrArg Host.Outcome.next ?_, rfl, rfl, fun _ => rfl, fun _ => rfl, fun _ => rfl,
    fun _ => rfl⟩
  rw [pollFinish_eq, armTrim_elim]
  rfl

/-- Settles O24: the arm Invalid, and the ids whose class is fixed to be it. -/
theorem invalidIdsAreViolations : Obligations.InvalidIdsAreViolations := by
  unfold Obligations.InvalidIdsAreViolations
  refine ⟨fun p id v1 v2 h => decodeEvent_of_class h v1 v2, fun s h hq hu => ?_, fun p id h => ?_⟩
  · rw [(ackSent s hu).2.2 hq, decodeEvent_of_class h]
    rfl
  · have hfixed : id ≠ 0x00 ∧ id ≠ 0x02 ∧ id ≠ 0x18 ∧ id ≠ 0x38 ∧ id ≠ 0x3E := by
      refine ⟨?_, ?_, ?_, ?_, ?_⟩ <;> rintro rfl <;> exact absurd h (by decide)
    obtain ⟨h0, h2, h18, h38, h3E⟩ := hfixed
    rw [idClass, if_neg h0, if_neg h2, if_neg h18, if_neg h38, if_neg h3E, if_pos h]

/-- The ids of the row ID_OTHER have the class the parameter gives them (R85). -/
theorem idClass_of_idOther {id : Byte} (h : (Instr.idOther id).wf = true) (p : Params) :
    id ≠ 0x3E ∧ idClass p id = otherClass p id := by
  simp only [Instr.wf, namedRawIds, Bool.and_eq_true, decide_eq_true_eq, Bool.not_eq_true', List.contains_eq_mem,
    decide_eq_false_iff_not, List.mem_cons, List.not_mem_nil, or_false, not_or] at h
  obtain ⟨hle, h0, h1, h2, h18, h38, h3E⟩ := h
  refine ⟨h3E, ?_⟩
  rw [idClass, if_neg h0, if_neg h2, if_neg h18, if_neg h38, if_neg h3E, if_neg (not_or.mpr ⟨h1, by omega⟩)]

/-- Settles O26: the arm of each class the parameter can give. -/
theorem otherIdsFollowTheirClass : Obligations.OtherIdsFollowTheirClass := by
  unfold Obligations.OtherIdsFollowTheirClass
  intro s id h
  obtain ⟨h3E, hclass⟩ := idClass_of_idOther h s.params
  refine congrArg Host.Outcome.next ?_
  rw [pollFinish_eq, decodeEvent_of_class hclass, otherClass]
  cases s.params.idOther.lookup id with
  | none => rfl
  | some c =>
    cases c with
    | trim =>
      refine (armTrim_elim id _ _ _).trans ?_
      rw [if_neg h3E]
      rfl
    | _ => rfl

/-! ### The checksum (R100 to R105) -/

/-- Writing one byte moves the fold by exactly the change of that byte. -/
theorem fold_set_eq_iff {l : List Byte} {i : Nat} (hi : i < l.length) (b : Byte) : fold (l.set i b) = fold l ↔ b = l[i] := by
  have hl : fold l = fold (l.take i ++ l[i] :: l.drop (i + 1)) := by
    rw [← List.drop_eq_getElem_cons hi, List.take_append_drop]
  rw [hl, List.set_eq_take_append_cons_drop, if_pos hi, fold_append, fold_append, fold_cons, fold_cons, BitVec.xor_right_inj,
    BitVec.xor_left_inj]

theorem ckCheck_ckGen_iff (ck : Byte) : ckCheck ck (ckGen ck) = true ↔ ck.getLsbD 7 = false := by
  revert ck
  decide

/-- A byte and its generated checksum fold to 0x7F, bit 7 of the byte aside (R104). -/
theorem xor_ckGen (c : Byte) : c ^^^ ckGen c = if c.getLsbD 7 = true then 0xFF else 0x7F := by
  revert c
  decide

theorem fold_setupContent (p : Params) (cs : ConsoleState) :
    fold (setupContent (layoutOf p) cs) = fold (setupContent defaultLayout cs) :=
  fold_eq_of_perm ((layoutOf_perm p).flatMap_right _)

/-- Settles O29: the fold sees one byte's change, and the layout only permutes the content. -/
theorem checksumDetectsAndAgrees : Obligations.ChecksumDetectsAndAgrees := by
  unfold Obligations.ChecksumDetectsAndAgrees
  refine ⟨fun l i b hi hl hb heq => hb ?_, ckCheck_ckGen_iff, fun p cs => ⟨fold_setupContent p cs, ?_, ?_⟩⟩
  · rw [List.getElem?_eq_getElem hi, (fold_set_eq_iff hi b).mp (heq.trans hl.symm)]
  · rw [encodeSetup_checksum, fold_setupContent]
  · rw [encodeSetup_toList, fold_concat, fold_setupContent, xor_ckGen]

/-- Settles O30: each byte by its place in the default order, each setting by the inverse of the split. -/
theorem setupBufferRoundTrip : Obligations.SetupBufferRoundTrip := by
  unfold Obligations.SetupBufferRoundTrip
  intro cs b
  have hbyte : ∀ i (hi : i < 32),
      b[i] = (setupContent defaultLayout cs ++ [ckGen (fold (setupContent defaultLayout cs))]).getD i 0 :=
    fun i hi => vecOf_getElem _ i hi
  have hsetting : ∀ v : Half, v.toNat < 32768 → join7 (split7Lo v) (split7Hi v) = v :=
    fun v hv => join7_split7 v (Nat.le_of_lt_succ hv)
  simp only [hbyte]
  exact ⟨rfl, rfl, rfl, rfl, rfl, rfl, hsetting _, hsetting _, hsetting _, hsetting _, hsetting _⟩

end Sys2Proof.Machine
end

section
/-! What a step can do (notes/assumptions/1.md): the cases of `step` in terms of the lines of the pseudocode; and from them which
register is written by whom, and when (spec/10_state.md R24 to R29). -/

namespace Sys2Proof.Machine

/-! ### The cases of a step -/

/-- Any number of reads answered one after another, and held bytes coming and going (R45, R54). -/
inductive Reads (s : State) : State → Prop where
  | start : Reads s s
  | held {t : State} (hr : Reads s t) (h : List Byte) : Reads s { t with held := h }
  | react {t u : State} (hr : Reads s t) (hu : t.sub = .rd) (h : Reacts t u) : Reads s u

/-- The engine at the last byte of the transmission it is about to begin, all bytes before it sent (R132). -/
def lastByte (s : State) : State :=
  { s with
    idx := BitVec.ofNat 6 ((outFrame s).length - 1)
    timer := 0
    requests := s.requests ++ gapped (outFrame s).tail }

/-- What an answer, a tick or a transfer can make of a state. -/
inductive Answered (s : State) : State → Prop where
  | reads {t : State} (h : Reads s t) : Answered s t
  | write {t : State} (hu : s.sub = .wr) (h : Reacts s t) : Answered s t
  | sends {t : State} (hu : s.sub = .wr) (hf : sendsFrame s.seq = true) (hi : s.idx = 0) (h : Reacts (lastByte s) t) :
      Answered s t
  | delayEnds {t : State} (hu : s.sub = .dly) (h : Reacts s t) : Answered s t
  | delayCounts (hu : s.sub = .dly) : Answered s { s with timer := s.timer - 1 }

/-- What an input can make of a state. -/
inductive Handles (s : State) : Input → State → Prop where
  | ignoresStart (code : BitVec 3) : Handles s (.start code) s
  | starts {t : State} (hb : s.busy = false) (h : Starts s t) : Handles s (.start (opCode t.op)) t
  | writesCs (w : CsWrite) : Handles s (.writeCs w) (clientWrite w s)
  | resets : Handles s .reset (resetInput s)
  | answers {e : Input} {t : State} (he : ∀ code, e ≠ .start code) (h : Answered s t) : Handles s e t

theorem Reads.deliver {s t : State} (h : Reads s t) (hr : readReady t = true) : Reads s (deliver t) := by
  obtain ⟨hu, hl⟩ := (readReady_iff t).mp hr
  refine .react (h.held (t.held.drop (readLen t.seq))) hu (answerRead_reacts hu fun bs hbs => ?_)
  cases hbs
  exact List.length_take_of_le hl

theorem reads_arrive (bs : List Byte) (s : State) : Reads s (arrive bs s) :=
  deliverAll_keeps (fun _ hr h => h.deliver hr) _ _ (Reads.start.held _)

theorem answered_grant (s : State) : Answered s (grant s) := by
  unfold grant
  split <;> rename_i hu
  · split
    · exact .reads (Reads.start.deliver ‹_›)
    · exact .reads .start
  · exact .write hu (answerWrite_reacts hu true)
  · exact .reads .start
  · exact .reads .start

theorem answered_deny (lost : Nat) (s : State) : Answered s (deny lost s) := by
  unfold deny
  split <;> rename_i hu
  · exact .reads (.react (t := { s with held := s.held.drop lost }) (Reads.start.held _) hu (answerRead_reacts hu (by simp)))
  · exact .write hu (answerWrite_reacts hu false)
  · exact .reads .start
  · exact .reads .start

theorem answered_tick (s : State) : Answered s (tick s) := by
  unfold tick
  split
  · split
    · exact .delayCounts ‹_›
    · exact .delayEnds ‹_› (endDelay_reacts ‹_›)
  · exact .reads .start

/-- A transmission that goes out as one transfer ends with the acceptance of its last byte. -/
theorem sendBytes_reacts {s : State} (hu : s.sub = .wr) (hi : s.idx = 0) (hf : sendsFrame s.seq = true) :
    Reacts (lastByte s) (sendBytes (outFrame s).length s) := by
  obtain ⟨n, hn⟩ : ∃ n, (outFrame s).length = n + 1 + 1 := by
    rw [outFrame_length]
    split
    · exact ⟨32, rfl⟩
    · exact ⟨1, rfl⟩
  rw [hn, sendBytes_rest (n + 1) s hu hf (by rw [hi, hn]; simp), hn, hi]
  have h := afterFrame_ok_reacts (s := lastByte s) hu hf (BitVec.ofNat 6 (n + 1 + 1))
  rw [lastByte, hn] at h ⊢
  simpa [gapped, gapMs] using h

theorem answered_passFrame (frame : List Byte) (s : State) : Answered s (passFrame frame s) := by
  by_cases h : aboutToSend frame s = true
  · obtain ⟨hu, hi, hf, rfl⟩ := (aboutToSend_iff frame s).mp h
    rw [passFrame_out h]
    exact .sends hu hf hi (sendBytes_reacts hu hi hf)
  · rw [passFrame, if_neg h]
    exact .reads (reads_arrive _ s)

theorem answered_exec {i : Instr} (hi : i.port = .channel) (s : State) : ∃ t, exec i s = .next t ∧ Answered s t := by
  have hwrite : ∀ (c : Bool) (bs : List Byte), (c = true → s.sub = .wr) →
      Answered s (if c then answerWrite true s else arrive bs s) := fun c bs hc => by
    split
    · exact .write (hc ‹_›) (answerWrite_reacts (hc ‹_›) true)
    · exact .reads (reads_arrive bs s)
  cases i with
  | sync => exact ⟨_, rfl, hwrite _ _ (by simp +contextual)⟩
  | ack => exact ⟨_, rfl, hwrite _ _ (by simp +contextual)⟩
  | cmd | cmdReset | cmdPrefetch | cmdFetch | setupWrite => exact ⟨_, rfl, answered_passFrame _ s⟩
  | idleSync | cue | cstFrame | pollFrame => exact ⟨_, rfl, .reads (reads_arrive _ s)⟩
  | _ => cases hi

theorem answered_runFrame (bs : List Byte) (s : State) : ∃ t, runFrame bs s = .next t ∧ Answered s t := by
  cases hdec : decode .channel bs with
  | error e => exact ⟨_, runFrame_error hdec, .reads (reads_arrive bs s)⟩
  | ok i =>
    rw [runFrame_ok hdec]
    split
    · exact answered_exec (decodeChannel_port bs i hdec) s
    · exact ⟨_, rfl, .reads (reads_arrive bs s)⟩

theorem handles_start (code : BitVec 3) (s : State) : ∃ t, exec (decodeOp code) s = .next t ∧ Handles s (.start code) t := by
  have hrun : ∀ {u : State} {o : Op}, Starts s u → u.op = o →
      Handles s (.start (opCode o)) (if s.busy then s else u) := fun h ho => by
    subst ho
    split
    · exact .ignoresStart _
    · exact .starts (by simpa using ‹¬s.busy = true›) h
  have hcode : code = 0 ∨ code = 1 ∨ code = 2 ∨ code = 3 ∨ code = 4 ∨ code = 5 ∨ code = 6 ∨ code = 7 := by
    revert code
    decide
  rcases hcode with rfl | rfl | rfl | rfl | rfl | rfl | rfl | rfl
  · exact ⟨s, rfl, .ignoresStart 0⟩
  · exact ⟨_, rfl, hrun (.handshake .handshake (.inl rfl)) rfl⟩
  · exact ⟨_, rfl, hrun .fetch rfl⟩
  · exact ⟨_, rfl, hrun (u := suBegin (accept .setup s)) (suBegin_eq _ ▸ Starts.setup) rfl⟩
  · exact ⟨_, rfl, hrun .poll rfl⟩
  · exact ⟨_, rfl, hrun (.handshake .teardown (.inr rfl)) rfl⟩
  · exact ⟨s, rfl, .ignoresStart 6⟩
  · exact ⟨s, rfl, .ignoresStart 7⟩

theorem handles_handle (e : Input) (s : State) : ∃ t, handle e s = .next t ∧ Handles s e t := by
  cases e with
  | start code => exact handles_start code s
  | writeCs w => exact ⟨_, rfl, .writesCs w⟩
  | reset => exact ⟨_, rfl, .resets⟩
  | grant => exact ⟨_, handle_grant s, .answers nofun (answered_grant s)⟩
  | deny lost => exact ⟨_, rfl, .answers nofun (answered_deny lost s)⟩
  | tick => exact ⟨_, rfl, .answers nofun (answered_tick s)⟩
  | frame bs =>
    obtain ⟨t, ht, h⟩ := answered_runFrame bs s
    exact ⟨t, ht, .answers nofun h⟩

/-- A step with an input next handles it. -/
theorem handles_of_step {s t : State} {e : Input} {rest : List Input} (hin : s.inbox = e :: rest) (h : step s = .next t) :
    Handles { s with inbox := rest } e t := by
  obtain ⟨u, hu, hh⟩ := handles_handle e { s with inbox := rest }
  rw [step_cons hin, hu] at h
  cases h
  exact hh

/-- With nothing next a step stays. -/
theorem step_nil {s : State} (hin : s.inbox = []) : step s = .next s := by
  rw [step, hin]

/-! ### What lines of the pseudocode keep, whatever answers come -/

/-- A property of the engine that does not look at the surroundings nor at where a transmission is. -/
def Blind (P : State → Prop) : Prop :=
  ∀ s held idx timer requests, P s → P { s with held := held, idx := idx, timer := timer, requests := requests }

theorem Reads.keeps {P : State → Prop} (hb : Blind P) (hreact : ∀ s t, s.sub = .rd → Reacts s t → P s → P t) {s t : State}
    (h : Reads s t) (hp : P s) : P t := by
  induction h with
  | start => exact hp
  | held _ h ih => exact hb _ h _ _ _ ih
  | react _ hu h ih => exact hreact _ _ hu h ih

theorem Answered.keeps {P : State → Prop} (hb : Blind P) (hreact : ∀ s t, Reacts s t → P s → P t) {s t : State}
    (h : Answered s t) (hp : P s) : P t := by
  cases h with
  | reads h => exact h.keeps hb (fun s t _ => hreact s t) hp
  | write _ h => exact hreact _ _ h hp
  | sends _ _ _ h => exact hreact _ _ h (hb s s.held _ _ _ hp)
  | delayEnds _ h => exact hreact _ _ h hp
  | delayCounts => exact hb s s.held s.idx _ s.requests hp

/-! ### Outputs wait for the return (R29, R140) -/

theorem SameOutputs.trans {s t u : State} (h : SameOutputs s t) (h' : SameOutputs t u) : SameOutputs s u := by
  obtain ⟨h1, h2, h3, h4, h5, h6, h7⟩ := h
  obtain ⟨k1, k2, k3, k4, k5, k6, k7⟩ := h'
  exact ⟨k1.trans h1, k2.trans h2, k3.trans h3, k4.trans h4, k5.trans h5, k6.trans h6, k7.trans h7⟩

theorem Answered.sameOutputs {s t : State} (h : Answered s t) (hb : t.busy = true) : SameOutputs s t :=
  h.keeps (P := fun u => u.busy = true → SameOutputs s u) (fun _ _ _ _ _ h => h)
    (fun _ _ hr hu hv => (hu (hr.sameOutputs hv).1).trans (hr.sameOutputs hv).2) (fun _ => ⟨rfl, rfl, rfl, rfl, rfl, rfl, rfl⟩) hb

/-- Settles O56: short of the return no input writes an output. -/
theorem outputsWaitForTheReturn : Obligations.OutputsWaitForTheReturn := by
  unfold Obligations.OutputsWaitForTheReturn
  intro s t h hs ht
  cases hin : s.inbox with
  | nil =>
    cases (step_nil hin).symm.trans h
    exact ⟨rfl, rfl, rfl, rfl, rfl, rfl, rfl⟩
  | cons e rest =>
    cases handles_of_step hin h with
    | ignoresStart | writesCs => exact ⟨rfl, rfl, rfl, rfl, rfl, rfl, rfl⟩
    | starts hb => exact absurd hb (by simp [hs])
    | resets => cases ht
    | answers _ h => exact h.sameOutputs ht

/-! ### What the client reads (R29, R31) -/

theorem clientView_start {s t : State} (h : Starts s t) :
    clientView t =
      { clientView s with
        busy := true
        op := t.op
        result := ⟨false, false, .none⟩
        hsState := if t.op = .handshake ∨ t.op = .teardown then .awaitingSync else s.hsState
        cst := if t.op = .fetch then none else (clientView s).cst
        mot := if t.op = .poll then none else (clientView s).mot
        evt := if t.op = .poll then none else (clientView s).evt } := by
  cases h with
  | handshake o ho => rcases ho with rfl | rfl <;> simp [clientView, hsBegin, hsPass]
  | fetch => simp [clientView, feBegin]
  | setup => simp [clientView, suEncode]
  | poll => simp [clientView, poBegin]

/-- Settles O57: the view by the valid flags, an accepted start, and the outputs that wait for the return. -/
theorem clientReads : Obligations.ClientReads := by
  unfold Obligations.ClientReads
  refine ⟨fun s => ⟨rfl, rfl, rfl, rfl, fun h => if_pos h, fun h => if_neg (by simp [h]), fun h => ⟨if_pos h, if_pos h⟩,
    fun h => ⟨if_neg (by simp [h]), if_neg (by simp [h])⟩⟩, fun s t code rest hin hs ht h => ?_, fun s t h hs ht => ?_⟩
  · cases handles_of_step hin h with
    | ignoresStart => exact absurd hs (by simpa using ht)
    | starts _ h =>
      have hview := clientView_start h
      exact ⟨hview, rfl⟩
    | answers he _ => exact absurd rfl (he code)
  · obtain ⟨hcst, hcv, hmot, hevt, hpv, hres, hop⟩ := outputsWaitForTheReturn s t h hs ht
    simp [clientView, hcst, hcv, hmot, hevt, hpv, hres, hop, hs, ht]

/-! ### Owners (R21, R22, R24 to R28) -/

/-- CST is written only by FETCH's last line. -/
theorem Reacts.cst {s t : State} (h : Reacts s t) :
    t.cst = s.cst ∨
      (s.seq = .feAckTx ∧ s.sub = .wr ∧ t.cst = decodeCst s.rxb ∧ t.cstValid = true ∧ t.result = ⟨true, true, .none⟩) := by
  cases h with
  | fetched h =>
    obtain ⟨hq, hu⟩ := Prod.mk.inj (List.mem_singleton.mp h)
    exact .inr ⟨hq, hu, rfl, rfl, rfl⟩
  | _ => exact .inl rfl

/-- MOT and EVT are written only by POLL's last line. -/
theorem Reacts.motEvt {s t : State} (h : Reacts s t) :
    (t.mot = s.mot ∧ t.evt = s.evt) ∨
      (s.seq = .poAckTx ∧ s.sub = .wr ∧ t.pollValid = true ∧ t.result = ⟨true, true, .none⟩) := by
  cases h with
  | polled _ _ h =>
    obtain ⟨hq, hu⟩ := Prod.mk.inj (List.mem_singleton.mp h)
    exact .inr ⟨hq, hu, rfl, rfl⟩
  | _ => exact .inl ⟨rfl, rfl⟩

theorem Reads.cst {s t : State} (h : Reads s t) : t.cst = s.cst :=
  h.keeps (P := fun u => u.cst = s.cst) (fun _ _ _ _ _ h => h)
    (fun _ _ hu hr h => (hr.cst.resolve_right (by simp [hu])).trans h) rfl

theorem Reads.motEvt {s t : State} (h : Reads s t) : t.mot = s.mot ∧ t.evt = s.evt :=
  h.keeps (P := fun u => u.mot = s.mot ∧ u.evt = s.evt) (fun _ _ _ _ _ h => h)
    (fun _ _ hu hr h => by
      obtain ⟨hm, he⟩ := hr.motEvt.resolve_right (by simp [hu])
      exact ⟨hm.trans h.1, he.trans h.2⟩) ⟨rfl, rfl⟩

theorem Answered.cst {s t : State} (h : Answered s t) (hne : t.cst ≠ s.cst) :
    s.seq = .feAckTx ∧ t.cst = decodeCst s.rxb ∧ t.cstValid = true ∧ t.result = ⟨true, true, .none⟩ := by
  have hline : ∀ u : State, Reacts u t → u.cst = s.cst → u.seq = s.seq → u.rxb = s.rxb →
      s.seq = .feAckTx ∧ t.cst = decodeCst s.rxb ∧ t.cstValid = true ∧ t.result = ⟨true, true, .none⟩ :=
    fun u hr hc hq hx => by
      rw [← hq, ← hx]
      obtain ⟨hq, -, hrest⟩ := hr.cst.resolve_left (hc ▸ hne)
      exact ⟨hq, hrest⟩
  cases h with
  | reads h => exact absurd h.cst hne
  | write _ h | delayEnds _ h => exact hline s h rfl rfl rfl
  | sends _ _ _ h => exact hline _ h rfl rfl rfl
  | delayCounts => exact absurd rfl hne

theorem Answered.motEvt {s t : State} (h : Answered s t) (hne : t.mot ≠ s.mot ∨ t.evt ≠ s.evt) :
    s.seq = .poAckTx ∧ t.pollValid = true ∧ t.result = ⟨true, true, .none⟩ := by
  have hsame : ¬(t.mot = s.mot ∧ t.evt = s.evt) := fun h => hne.elim (absurd h.1) (absurd h.2)
  have hline : ∀ u : State, Reacts u t → u.mot = s.mot → u.evt = s.evt → u.seq = s.seq →
      s.seq = .poAckTx ∧ t.pollValid = true ∧ t.result = ⟨true, true, .none⟩ :=
    fun u hr hm he hq => by
      obtain ⟨hq', -, hrest⟩ := hr.motEvt.resolve_left (by rw [hm, he]; exact hsame)
      exact ⟨hq.symm.trans hq', hrest⟩
  cases h with
  | reads h => exact absurd h.motEvt hsame
  | write _ h | delayEnds _ h => exact hline s h rfl rfl rfl
  | sends _ _ _ h => exact hline _ h rfl rfl rfl
  | delayCounts => exact absurd ⟨rfl, rfl⟩ hsame

/-- Outside the handshake no line of the pseudocode writes HS_STATE or leads into it. -/
theorem Reacts.hsState_stays {s t : State} (h : Reacts s t) (hl : hsLabel s.seq = false) :
    hsLabel t.seq = false ∧ t.hsState = s.hsState := by
  have hnot : ∀ {stands : List (Label × Sub)}, (s.seq, s.sub) ∈ stands → stands.all (fun p => hsLabel p.1) = true → False :=
    fun hm hall => absurd (of_stands (fun l _ => hsLabel l) hm hall) (by simp [hl])
  cases h with
  | ignores | ignoresByte | nextByte | gap | fits | skips => exact ⟨hl, rfl⟩
  | synced _ h | firstReset h | nextReset h | rstAckWait _ h | step3 _ h | nudge h | nextPass h | hsFails h | tornDown h =>
    exact (hnot h rfl).elim
  | _ => exact ⟨rfl, rfl⟩

theorem Answered.hsState {s t : State} (h : Answered s t) (hl : hsLabel s.seq = false) : t.hsState = s.hsState :=
  (h.keeps (P := fun u => hsLabel u.seq = false ∧ u.hsState = s.hsState) (fun _ _ _ _ _ h => h)
    (fun _ _ hr h => ⟨(hr.hsState_stays h.1).1, (hr.hsState_stays h.1).2.trans h.2⟩) ⟨hl, rfl⟩).2

/-- CS, the write timeout and the parameters are the same in both states. -/
def SameConfig (s t : State) : Prop := t.cs = s.cs ∧ t.wtoMult = s.wtoMult ∧ t.params = s.params

theorem Reacts.sameConfig {s t : State} (h : Reacts s t) : SameConfig s t := by
  cases h <;> exact ⟨rfl, rfl, rfl⟩

theorem Answered.sameConfig {s t : State} (h : Answered s t) : SameConfig s t :=
  h.keeps (P := SameConfig s) (fun _ _ _ _ _ h => h)
    (fun _ _ hr h => ⟨hr.sameConfig.1.trans h.1, hr.sameConfig.2.1.trans h.2.1, hr.sameConfig.2.2.trans h.2.2⟩) ⟨rfl, rfl, rfl⟩

theorem Starts.owners {s t : State} (h : Starts s t) :
    t.cst = s.cst ∧ t.mot = s.mot ∧ t.evt = s.evt ∧ SameConfig s t ∧
      (t.hsState ≠ s.hsState → t.op = .handshake ∨ t.op = .teardown) := by
  cases h with
  | handshake o ho => exact ⟨rfl, rfl, rfl, ⟨rfl, rfl, rfl⟩, fun _ => ho⟩
  | _ => exact ⟨rfl, rfl, rfl, ⟨rfl, rfl, rfl⟩, fun h => absurd rfl h⟩

/-- Settles O58: input by input, each register by the lines that write it. -/
theorem onlyOwnersWrite : Obligations.OnlyOwnersWrite := by
  unfold Obligations.OnlyOwnersWrite
  intro s t h hreset
  have hsame : ∀ {α : Type} {a : α} {p : Prop}, a ≠ a → p := fun h => absurd rfl h
  cases hin : s.inbox with
  | nil =>
    cases (step_nil hin).symm.trans h
    exact ⟨hsame, fun h => h.elim hsame hsame, hsame, hsame, rfl, rfl⟩
  | cons e rest =>
    cases handles_of_step hin h with
    | ignoresStart => exact ⟨hsame, fun h => h.elim hsame hsame, hsame, hsame, rfl, rfl⟩
    | starts hb h =>
      obtain ⟨hcst, hmot, hevt, ⟨hcs, hwto, hparams⟩, hhs⟩ := h.owners
      exact ⟨absurd hcst, fun h => h.elim (absurd hmot) (absurd hevt), fun h => .inr ⟨hb, hhs h⟩, absurd hcs, hwto, hparams⟩
    | writesCs w => exact ⟨hsame, fun h => h.elim hsame hsame, hsame, fun _ => ⟨w, rfl, rfl⟩, rfl, rfl⟩
    | resets => exact absurd (by rw [hin]; rfl) hreset
    | answers _ h =>
      obtain ⟨hcs, hwto, hparams⟩ := h.sameConfig
      refine ⟨h.cst, h.motEvt, fun hne => .inl ?_, absurd hcs, hwto, hparams⟩
      by_contra hl
      exact hne (h.hsState (by simpa using hl))

end Sys2Proof.Machine
end

section
/-! The budget of R142 counted down along the pseudocode (spec/41_primitives.md): every answer spends some of it, the end of a delay
none. -/

namespace Sys2Proof.Machine

/-! ### What is left of a wait and of a transmission -/

theorem waitLeft_beginWait (l : Label) (s : State) :
    waitLeft (beginWait l s) = waitReads s.params * (awaited l).length := by
  show (s.params.waitSkipMax.toNat - 0) * (awaited l).length + ((awaited l).length - 0) = _
  rw [waitReads, Nat.succ_mul]
  rfl

theorem frameLeft_beginFrame (l : Label) (s : State) : frameLeft (beginFrame l s) = if l = .suWrTx then 34 else 3 := by
  rw [frameLeft, outFrame_length]
  rfl

theorem waitLeft_pos {s : State} (h : CountInv s) (ha : awaited s.seq ≠ []) : 0 < waitLeft s := by
  have hm := (h.2.1 ha).1
  unfold waitLeft
  omega

theorem frameLeft_pos {s : State} (h : CountInv s) (hf : sendsFrame s.seq = true) : 0 < frameLeft s :=
  Nat.sub_pos_of_lt (h.1 hf)

/-- The next attempt of a loop is paid by what the attempts left before it. -/
theorem triesLeft_next {s t : State} (h : s.tries.toNat < 3) (ht : t.tries = s.tries + 1) : triesLeft s = triesLeft t + 1 := by
  have : (s.tries + 1).toNat = s.tries.toNat + 1 := by
    rw [BitVec.toNat_add]
    simp
    omega
  rw [triesLeft, triesLeft, ht]
  omega

/-- The next pass is paid by what the passes left before it. -/
theorem passesLeft_next {s t : State} (h : s.pass + 1 < passesOf s.params) (hp : s.pass < passesOf s.params)
    (ht : t.pass = s.pass + 1) (hparams : t.params = s.params) : passesLeft s = passesLeft t + 1 := by
  have := (passesOf s.params).isLt
  have hlt : s.pass.toNat < (passesOf s.params).toNat := hp
  have hnext : (s.pass + 1).toNat < (passesOf s.params).toNat := h
  have hadd : (s.pass + 1).toNat = s.pass.toNat + 1 := by
    rw [BitVec.toNat_add]
    simp
    omega
  rw [passesLeft, passesLeft, ht, hparams]
  omega

/-- What the operation can still need once the answer outstanding at its label has come and the primitive there has returned:
`budget` without its first term. -/
def budgetAfter (s : State) : Nat :=
  match s.seq with
  | .idle => 0
  | .hsProbe => 3 * (3 + waitReads s.params) + waitReads s.params + 1 + passesLeft s * passRequests s.params
  | .hsRstTx =>
    waitReads s.params + triesLeft s * (3 + waitReads s.params) + waitReads s.params + 1 +
      passesLeft s * passRequests s.params
  | .hsRstAck =>
    triesLeft s * (3 + waitReads s.params) + waitReads s.params + 1 + passesLeft s * passRequests s.params
  | .hsSync => 1 + passesLeft s * passRequests s.params
  | .hsNudge => passesLeft s * passRequests s.params
  | .feC36Tx => waitReads s.params + (3 + waitReads s.params) + 3 * (waitReads s.params + 4)
  | .feC36Ack => 3 + waitReads s.params + 3 * (waitReads s.params + 4)
  | .feC23Tx => waitReads s.params + 3 * (waitReads s.params + 4)
  | .feC23Ack => 3 * (waitReads s.params + 4)
  | .feSync => 4 + triesLeft s * (waitReads s.params + 4)
  | .feSeed => 3 + triesLeft s * (waitReads s.params + 4)
  | .fePayload => 2 + triesLeft s * (waitReads s.params + 4)
  | .feTrail => 1 + triesLeft s * (waitReads s.params + 4)
  | .feAckTx => triesLeft s * (waitReads s.params + 4)
  | .suCue => 1 + triesLeft s * (3 * waitReads s.params + 1) + 3 * (34 + waitReads s.params)
  | .suCueAckTx => triesLeft s * (3 * waitReads s.params + 1) + 3 * (34 + waitReads s.params)
  | .suSettle => 3 * (34 + waitReads s.params)
  | .suWrTx => waitReads s.params + triesLeft s * (34 + waitReads s.params)
  | .suWrAck => triesLeft s * (34 + waitReads s.params)
  | .poSync => 2
  | .poPayload => 1
  | .poAckTx => 0

theorem budget_wait {s : State} (h : awaited s.seq ≠ []) : budget s = waitLeft s + budgetAfter s := by
  unfold budget budgetAfter
  revert h
  cases s.seq <;> simp [awaited, Nat.add_assoc]

theorem budget_frame {s : State} (h : sendsFrame s.seq = true) : budget s = frameLeft s + budgetAfter s := by
  unfold budget budgetAfter
  revert h
  cases s.seq <;> simp [sendsFrame, sendsCommand, Nat.add_assoc]

/-- A body read and a single acknowledge are one answer. -/
theorem budget_single {s : State} (h : readsBody s.seq = true ∨ sendsAck s.seq = true) : budget s = 1 + budgetAfter s := by
  unfold budget budgetAfter
  revert h
  cases s.seq <;> simp [readsBody, sendsAck, ← Nat.add_assoc]

/-- Where a read or a write is outstanding, a wait, a transmission, a body or an acknowledge is. -/
theorem primitive_of_stands {l : Label} {u : Sub} (h : subAllowed l u = true) (hu : u = .rd ∨ u = .wr) :
    awaited l ≠ [] ∨ sendsFrame l = true ∨ readsBody l = true ∨ sendsAck l = true := by
  revert h
  rcases hu with rfl | rfl <;> cases l <;> decide

/-- The answer outstanding is in the budget. -/
theorem budgetAfter_lt {s : State} (hs : StandsInv s) (hc : CountInv s) (hu : s.sub = .rd ∨ s.sub = .wr) :
    budgetAfter s < budget s := by
  rcases primitive_of_stands hs.2.1 hu with h | h | h
  · have := waitLeft_pos hc h
    rw [budget_wait h]
    omega
  · have := frameLeft_pos hc h
    rw [budget_frame h]
    omega
  · rw [budget_single h]
    omega

/-- Inside a wait the budget counts its reads down. -/
theorem budget_lt_of_wait {s t : State} (h : awaited s.seq ≠ []) (hq : t.seq = s.seq) (ha : budgetAfter t = budgetAfter s)
    (hw : waitLeft t < waitLeft s) : budget t < budget s := by
  rw [budget_wait h, budget_wait (hq ▸ h), ha]
  omega

/-- Inside a transmission the budget counts its writes down. -/
theorem budget_lt_of_frame {s t : State} (h : sendsFrame s.seq = true) (hq : t.seq = s.seq)
    (ha : budgetAfter t = budgetAfter s) (hf : frameLeft t < frameLeft s) : budget t < budget s := by
  rw [budget_frame h, budget_frame (hq ▸ h), ha]
  omega

theorem frameLeft_gap {s : State} (h : s.idx.toNat < (outFrame s).length) :
    frameLeft (beginDelay s.seq gapMs { s with idx := s.idx + 1 }) < frameLeft s := by
  show (outFrame s).length - (s.idx + 1).toNat < (outFrame s).length - s.idx.toNat
  rw [idx_succ h]
  omega

theorem waitLeft_fits {s : State} (h : s.matched.toNat < (awaited s.seq).length) :
    waitLeft (issueRead s.seq { s with matched := s.matched + 1 }) < waitLeft s := by
  show _ + ((awaited s.seq).length - (s.matched + 1).toNat) < _ + ((awaited s.seq).length - s.matched.toNat)
  rw [matched_succ h (awaited_length_le _)]
  exact Nat.add_lt_add_left (by omega) _

/-- A skipped byte costs a whole sequence of the budget, whatever had matched before it. -/
theorem waitLeft_skips {s : State} (m : BitVec 2) (h : s.matched.toNat < (awaited s.seq).length)
    (hk : s.skip ≤ s.params.waitSkipMax) (hne : s.skip ≠ s.params.waitSkipMax) :
    waitLeft (issueRead s.seq { s with skip := s.skip + 1, matched := m }) < waitLeft s := by
  show (s.params.waitSkipMax.toNat - (s.skip + 1).toNat) * (awaited s.seq).length + ((awaited s.seq).length - m.toNat) <
    (s.params.waitSkipMax.toNat - s.skip.toNat) * (awaited s.seq).length + ((awaited s.seq).length - s.matched.toNat)
  have hlt : s.skip.toNat < s.params.waitSkipMax.toNat := lt_of_le_of_ne hk fun he => hne (BitVec.eq_of_toNat_eq he)
  have hleft : s.params.waitSkipMax.toNat - s.skip.toNat = s.params.waitSkipMax.toNat - (s.skip + 1).toNat + 1 := by
    rw [skip_succ hk hne]
    omega
  rw [hleft, Nat.succ_mul]
  omega

theorem budget_beginWait {l : Label} (h : awaited l ≠ []) (s : State) :
    budget (beginWait l s) = waitReads s.params * (awaited l).length + budgetAfter (beginWait l s) := by
  rw [budget_wait (by exact h), waitLeft_beginWait]

theorem budget_beginFrame {l : Label} (h : sendsFrame l = true) (s : State) :
    budget (beginFrame l s) = (if l = .suWrTx then 34 else 3) + budgetAfter (beginFrame l s) := by
  rw [budget_frame (by exact h), frameLeft_beginFrame]

/-! ### What the next attempt of each loop needs is what the attempts left before it were worth -/

theorem budget_nextReset {s : State} (ht : s.tries.toNat < 3) :
    budget (sendCommand .hsRstTx resetCode { s with tries := s.tries + 1, hsState := .resettingSent }) =
      triesLeft s * (3 + waitReads s.params) + waitReads s.params + 1 + passesLeft s * passRequests s.params := by
  rw [triesLeft_next (t := { s with tries := s.tries + 1 }) ht rfl, Nat.succ_mul, sendCommand, budget_beginFrame rfl]
  simp [budgetAfter, triesLeft, passesLeft]
  omega

theorem budget_nextFrame {s : State} (k : ErrKind) (ht : s.tries.toNat < 3) :
    budget (beginWait .feSync { s with lastErr := k, tries := s.tries + 1 }) = triesLeft s * (waitReads s.params + 4) := by
  rw [triesLeft_next (t := { s with tries := s.tries + 1 }) ht rfl, Nat.succ_mul, budget_beginWait (by decide)]
  simp [budgetAfter, triesLeft, awaited]
  omega

theorem budget_nextCue {s : State} (k : ErrKind) (ht : s.tries.toNat < 3) :
    budget (beginWait .suCue { s with lastErr := k, tries := s.tries + 1 }) =
      triesLeft s * (3 * waitReads s.params + 1) + 3 * (34 + waitReads s.params) := by
  rw [triesLeft_next (t := { s with tries := s.tries + 1 }) ht rfl, Nat.succ_mul, budget_beginWait (by decide)]
  simp [budgetAfter, triesLeft, awaited, cueBytes]
  omega

theorem budget_nextWrite {s : State} (k : ErrKind) (ht : s.tries.toNat < 3) :
    budget (beginFrame .suWrTx { s with lastErr := k, tries := s.tries + 1 }) = triesLeft s * (34 + waitReads s.params) := by
  rw [triesLeft_next (t := { s with tries := s.tries + 1 }) ht rfl, Nat.succ_mul, budget_beginFrame rfl]
  simp [budgetAfter, triesLeft]
  omega

theorem budget_nextPass {s : State} (hp : s.pass + 1 < passesOf s.params) (hs : s.pass < passesOf s.params) :
    budget (beginWait .hsProbe { s with pass := s.pass + 1, hsState := .awaitingSync }) =
      passesLeft s * passRequests s.params := by
  rw [passesLeft_next (t := { s with pass := s.pass + 1 }) hp hs rfl rfl, Nat.succ_mul, budget_beginWait (by decide)]
  simp [budgetAfter, passesLeft, awaited, passRequests]
  omega

/-- A line of the pseudocode at which a primitive has returned is paid by what is left after the primitive. -/
theorem Reacts.budget_lt {s t : State} (h : Reacts s t) (hs : StandsInv s) (hc : CountInv s) (hu : s.sub = .rd ∨ s.sub = .wr) :
    budget t < budget s := by
  have hafter := budgetAfter_lt hs hc hu
  have hdly : s.sub ≠ .dly := by rcases hu with hu | hu <;> simp [hu]
  cases h with
  | ignores h | ignoresByte _ _ _ h => exact absurd hs.2.1 (by simp [h])
  | nextByte h => exact absurd h hdly
  | firstWrite h => exact absurd (Prod.mk.inj (List.mem_singleton.mp h)).2 hdly
  | gap _ hf => exact budget_lt_of_frame hf rfl rfl (frameLeft_gap (hc.1 hf))
  | fits b _ h =>
    have ha : awaited s.seq ≠ [] := fun ha => by simp [ha] at h
    exact budget_lt_of_wait ha rfl rfl (waitLeft_fits (hc.2.1 ha).1)
  | skips b _ ha h hs => exact budget_lt_of_wait ha rfl rfl (waitLeft_skips _ (hc.2.1 ha).1 (hc.2.1 ha).2 hs)
  | synced | fetched | framesSpent | commandFails | setupSpent | setUp | pollFails | polled | hsFails | tornDown =>
    exact (Nat.zero_le _).trans_lt hafter
  | nextPass h hp =>
    obtain ⟨hq, -⟩ := Prod.mk.inj (List.mem_singleton.mp h)
    rw [budget_nextPass hp (hc.2.2 (by rw [hq]; rfl))]
    simpa only [budgetAfter, hq] using hafter
  | nextReset h ht =>
    refine lt_of_le_of_lt ?_ hafter
    rw [budget_nextReset ht]
    simp only [List.mem_cons, List.not_mem_nil, or_false, Prod.mk.injEq] at h
    rcases h with ⟨hq, -⟩ | ⟨hq, -⟩ <;> simp only [budgetAfter, hq] <;> omega
  | nextFrame k hk h ht =>
    refine lt_of_le_of_lt ?_ hafter
    rw [budget_nextFrame k ht]
    simp only [feLoopStands, List.mem_cons, List.not_mem_nil, or_false, Prod.mk.injEq] at h
    rcases h with ⟨hq, -⟩ | ⟨hq, -⟩ | ⟨hq, -⟩ | ⟨hq, -⟩ | ⟨hq, -⟩ <;> simp only [budgetAfter, hq] <;> omega
  | nextCue k hk h ht =>
    refine lt_of_le_of_lt ?_ hafter
    rw [budget_nextCue k ht]
    simp only [List.mem_cons, List.not_mem_nil, or_false, Prod.mk.injEq] at h
    rcases h with ⟨hq, -⟩ | ⟨hq, -⟩ <;> simp only [budgetAfter, hq] <;> omega
  | nextWrite k hk h ht =>
    refine lt_of_le_of_lt ?_ hafter
    rw [budget_nextWrite k ht]
    simp only [List.mem_cons, List.not_mem_nil, or_false, Prod.mk.injEq] at h
    rcases h with ⟨hq, -⟩ | ⟨hq, -⟩ <;> simp only [budgetAfter, hq] <;> omega
  | step3 _ h =>
    refine lt_of_le_of_lt ?_ hafter
    simp only [List.mem_cons, List.not_mem_nil, or_false, Prod.mk.injEq] at h
    rcases h with ⟨hq, -⟩ | ⟨hq, -⟩ <;> simp [budget, budgetAfter, hq, passesLeft, waitLeft_beginWait, awaited]
  | firstReset h | firstFrame _ h =>
    obtain ⟨hq, -⟩ := Prod.mk.inj (List.mem_singleton.mp h)
    refine lt_of_le_of_lt ?_ hafter
    simp [budget, budgetAfter, hq, triesLeft, passesLeft, waitLeft_beginWait, sendCommand, frameLeft_beginFrame, awaited]
    omega
  | rstAckWait _ h | nudge h | ack36Wait _ h | command23 _ h | ack23Wait _ h | seed _ h | payload _ h | trailing _ _ h
  | frameAck h | cueAck _ h | settle h | writeAckWait _ h | pollPayload _ h | pollAck _ _ _ h =>
    obtain ⟨hq, -⟩ := Prod.mk.inj (List.mem_singleton.mp h)
    refine lt_of_le_of_lt ?_ hafter
    simp [budget, budgetAfter, hq, triesLeft, passesLeft, waitLeft_beginWait, sendCommand, frameLeft_beginFrame, awaited]

/-- The end of a delay spends nothing. -/
theorem Reacts.budget_eq {s t : State} (h : Reacts s t) (hu : s.sub = .dly) : budget t = budget s := by
  cases h with
  | nextByte => rfl
  | ignores h => rfl
  | firstWrite h =>
    obtain ⟨hq, -⟩ := Prod.mk.inj (List.mem_singleton.mp h)
    simp [budget, hq, frameLeft_beginFrame, triesLeft]
    omega
  | ignoresByte _ _ hu' | fits _ hu' | skips _ hu' | gap hu' => simp [hu] at hu'
  | _ => exact absurd (of_stands (fun _ u => u != .dly) ‹_› rfl) (by simp [hu])

end Sys2Proof.Machine
end

section
/-! The termination bounds of R142 (spec/41_primitives.md): what each input does to the budget, and what a whole run can ask. -/

namespace Sys2Proof.Machine

/-! ### Answers one by one -/

/-- The answers of a read spend budget, whatever the Transport holds besides. -/
theorem budget_answerRead_lt {s : State} (hs : StandsInv s) (hc : CountInv s) (hu : s.sub = .rd) {r : Option (List Byte)}
    (hr : ∀ bs, r = some bs → bs.length = readLen s.seq) (h : List Byte) :
    budget (answerRead r { s with held := h }) < budget s :=
  (answerRead_reacts (s := { s with held := h }) hu hr).budget_lt hs hc (.inl hu)

theorem budget_deliver_lt {s : State} (hs : StandsInv s) (hc : CountInv s) (hr : readReady s = true) :
    budget (deliver s) < budget s := by
  obtain ⟨hu, hl⟩ := (readReady_iff s).mp hr
  refine budget_answerRead_lt hs hc hu (fun bs hbs => ?_) _
  cases hbs
  exact List.length_take_of_le hl

theorem budget_answerWrite_lt {s : State} (hs : StandsInv s) (hc : CountInv s) (hu : s.sub = .wr) (ok : Bool) :
    budget (answerWrite ok s) < budget s :=
  (answerWrite_reacts hu ok).budget_lt hs hc (.inr hu)

theorem budget_deny_lt {s : State} (hs : StandsInv s) (hc : CountInv s) (hu : s.sub = .rd ∨ s.sub = .wr) (lost : Nat) :
    budget (deny lost s) < budget s := by
  rcases hu with hu | hu
  · rw [deny_read hu]
    exact budget_answerRead_lt hs hc hu (by simp) _
  · rw [deny_write hu]
    exact budget_answerWrite_lt hs hc hu false

theorem grant_write {s : State} (hu : s.sub = .wr) : grant s = answerWrite true s := by
  simp only [grant, hu]

theorem budget_grant_lt {s : State} (hs : StandsInv s) (hc : CountInv s) (h : s.sub = .wr ∨ readReady s = true) :
    budget (grant s) < budget s := by
  rcases h with hu | hr
  · rw [grant_write hu]
    exact budget_answerWrite_lt hs hc hu true
  · rw [grant_ready hr]
    exact budget_deliver_lt hs hc hr

theorem budget_tick (s : State) : budget (tick s) = budget s := by
  unfold tick
  split
  · split
    · rfl
    · exact (endDelay_reacts ‹_›).budget_eq ‹_›
  · rfl

/-! ### Inputs -/

/-- Every state reads lead to has less of the budget, and stands where it may. -/
theorem Reads.budget_le {s t : State} (h : Reads s t) (hs : StandsInv s) (hc : CountInv s) :
    StandsInv t ∧ CountInv t ∧ budget t ≤ budget s := by
  induction h with
  | start => exact ⟨hs, hc, le_rfl⟩
  | held _ h ih => exact ih
  | react _ hu h ih =>
    obtain ⟨hs', hc', hle⟩ := ih
    exact ⟨h.stands hs', h.counts hc', (h.budget_lt hs' hc' (.inl hu)).le.trans hle⟩

theorem countInv_lastByte {s : State} (hc : CountInv s) : CountInv (lastByte s) := by
  refine ⟨fun _ => ?_, hc.2⟩
  have := outFrame_length_le s
  have := outFrame_pos s
  show (BitVec.ofNat 6 ((outFrame s).length - 1)).toNat < (outFrame s).length
  rw [BitVec.toNat_ofNat]
  omega

/-- All but the last byte of a transmission cost one write each. -/
theorem budget_lastByte {s : State} (hf : sendsFrame s.seq = true) (hi : s.idx = 0) :
    budget (lastByte s) + ((outFrame s).length - 1) = budget s := by
  have hlen := outFrame_length_le s
  have hpos := outFrame_pos s
  have hlast : frameLeft (lastByte s) = 1 := by
    show (outFrame s).length - (BitVec.ofNat 6 ((outFrame s).length - 1)).toNat = 1
    rw [BitVec.toNat_ofNat]
    omega
  have hfirst : frameLeft s = (outFrame s).length := by
    rw [frameLeft, hi]
    rfl
  have hafter : budgetAfter (lastByte s) = budgetAfter s := rfl
  rw [budget_frame (s := lastByte s) hf, budget_frame hf, hlast, hfirst, hafter]
  omega

/-- A transmission that goes out spends budget. -/
theorem budget_sends_lt {s t : State} (hs : StandsInv s) (hc : CountInv s) (hu : s.sub = .wr) (hf : sendsFrame s.seq = true)
    (hi : s.idx = 0) (h : Reacts (lastByte s) t) : budget t < budget s := by
  have hlt := h.budget_lt hs (countInv_lastByte hc) (.inr hu)
  have := budget_lastByte hf hi
  omega

theorem Answered.budget_le {s t : State} (h : Answered s t) (hs : StandsInv s) (hc : CountInv s) : budget t ≤ budget s := by
  cases h with
  | reads h => exact (h.budget_le hs hc).2.2
  | write hu h => exact (h.budget_lt hs hc (.inr hu)).le
  | sends hu hf hi h => exact (budget_sends_lt hs hc hu hf hi h).le
  | delayEnds hu h => exact (h.budget_eq hu).le
  | delayCounts => exact le_rfl

theorem Handles.budget_le {s t : State} {e : Input} (h : Handles s e t) (hb : s.busy = true) (hs : StandsInv s)
    (hc : CountInv s) : budget t ≤ budget s := by
  cases h with
  | ignoresStart | writesCs => exact le_rfl
  | starts hb' => exact absurd hb (by simp [hb'])
  | resets => exact Nat.zero_le _
  | answers _ h => exact h.budget_le hs hc

/-! ### Transfers that carry an answer -/

theorem deliverAll_ready {n : Nat} {s : State} (h : readReady s = true) : deliverAll (n + 1) s = deliverAll n (deliver s) :=
  if_pos h

/-- Bytes that complete an outstanding read spend budget. -/
theorem budget_arrive_lt {s : State} {bs : List Byte} (hs : StandsInv s) (hc : CountInv s) (hu : s.sub = .rd)
    (h : readLen s.seq ≤ s.held.length + bs.length) : budget (arrive bs s) < budget s := by
  have hready : readReady { s with held := s.held ++ bs } = true := (readReady_iff _).mpr ⟨hu, by simpa using h⟩
  have hpos := readLen_pos s.seq
  obtain ⟨n, hn⟩ : ∃ n, s.held.length + bs.length = n + 1 := ⟨_, (Nat.succ_pred (by omega)).symm⟩
  have hfirst := budget_deliver_lt (s := { s with held := s.held ++ bs }) hs hc hready
  obtain ⟨hs', hc', -⟩ := (Reads.start.deliver hready).budget_le hs hc
  have hrest := deliverAll_keeps (P := Reads (deliver { s with held := s.held ++ bs })) (fun _ hr h => h.deliver hr) n _ .start
  rw [arrive, hn, deliverAll_ready hready]
  exact (hrest.budget_le hs' hc').2.2.trans_lt hfirst

/-- A well-formed row that passes on the channel runs. -/
theorem runFrame_encode {i : Instr} (hi : i.port = .channel) (hwf : i.wf = true) (s : State) :
    runFrame (encode i) s = exec i s := by
  have hdec := decodeOfEncode i hwf
  rw [hi] at hdec
  rw [runFrame_ok hdec, if_pos hwf]

/-- Where no write is outstanding, whatever passes on the channel arrives. -/
theorem runFrame_in {s : State} (hu : s.sub ≠ .wr) (bs : List Byte) : runFrame bs s = .next (arrive bs s) := by
  cases hdec : decode .channel bs with
  | error e => exact runFrame_error hdec
  | ok i =>
    obtain ⟨hi, rfl⟩ := encodeOfDecode .channel bs i hdec
    rw [runFrame_ok hdec]
    split
    · exact exec_channel_in hu hi
    · rfl

/-- What is being sent is a row of the table: one of the three command frames, or a well-formed setup write (R63, R75). -/
theorem runFrame_sent {s : State} (hsend : SendingInv s) (h : aboutToSend (outFrame s) s = true) :
    runFrame (outFrame s) s = .next (sendBytes (outFrame s).length s) := by
  obtain ⟨hu, hi, hf, -⟩ := (aboutToSend_iff _ s).mp h
  obtain ⟨hrst, h36, h23, hsu, -⟩ := hsend
  have hrow : ∀ {i : Instr} {frame : List Byte}, outFrame s = frame → i.port = .channel → i.wf = true → encode i = frame →
      exec i s = .next (passFrame frame s) → runFrame (outFrame s) s = .next (sendBytes (outFrame s).length s) := by
    intro i frame ho hport hwf henc hexec
    rw [ho] at h ⊢
    rw [← henc, runFrame_encode hport hwf, hexec, henc, passFrame_out h]
  rcases sendsFrame_cases hf with hq | hq | hq | hq
  · exact hrow (i := .cmdReset) ((outFrame_command (by rw [hq]; rfl)).trans (hrst hq)) rfl rfl rfl rfl
  · exact hrow (i := .cmdPrefetch) ((outFrame_command (by rw [hq]; rfl)).trans (h36 hq)) rfl rfl rfl rfl
  · exact hrow (i := .cmdFetch) ((outFrame_command (by rw [hq]; rfl)).trans (h23 hq)) rfl rfl rfl rfl
  · obtain ⟨hck, hlast⟩ := hsu (by rw [hq]; rfl)
    obtain ⟨content, ck, htxb⟩ : ∃ (content : Vector Byte 31) (ck : Byte), s.txb.toList = content.toList ++ [ck] :=
      ⟨_, _, (vecOf_toList_concat s.txb.toList (Vector.length_toList (xs := s.txb))).symm⟩
    have hchecksum : ck = s.txb[31] := by
      have hget : s.txb.toList.getD 31 0 = s.txb[31] := by simp [List.getD_eq_getElem?_getD]
      rw [← hget, htxb, getD_concat]
    have hwf : ck = ckGen (fold content.toList) := by
      rw [hchecksum, hlast, hck, htxb, List.take_left' (by simp)]
    exact hrow (i := .setupWrite content ck) ((outFrame_write hq).trans (congrArg _ htxb)) rfl (beq_iff_eq.mpr hwf) rfl rfl

/-- The first byte of what is being sent is SYNC. -/
theorem outByte_sync {s : State} (hsend : SendingInv s) (hf : sendsFrame s.seq = true) (hi : s.idx = 0) :
    outByte s = syncByte := by
  obtain ⟨hrst, h36, h23, -⟩ := hsend
  rw [outByte_of_sendsFrame hf, hi]
  rcases sendsFrame_cases hf with hq | hq | hq | hq
  · rw [outFrame_command (by rw [hq]; rfl), hrst hq]; rfl
  · rw [outFrame_command (by rw [hq]; rfl), h36 hq]; rfl
  · rw [outFrame_command (by rw [hq]; rfl), h23 hq]; rfl
  · rw [outFrame_write hq]; rfl

/-- A transfer that carries an answer spends budget. -/
theorem budget_runFrame_lt {s t : State} {bs : List Byte} (hs : StandsInv s) (hc : CountInv s) (hsend : SendingInv s)
    (h : carries bs s = true) (ht : runFrame bs s = .next t) : budget t < budget s := by
  unfold carries at h
  split at h <;> rename_i hu
  · rw [runFrame_in (by simp [hu])] at ht
    cases ht
    exact budget_arrive_lt hs hc hu (by simpa using h)
  · have hwrite : ∀ {i : Instr}, i.port = .channel → i.wf = true → encode i = bs → exec i s = .next (answerWrite true s) →
        budget t < budget s := fun hi hwf he hexec => by
      rw [← he, runFrame_encode hi hwf, hexec] at ht
      cases ht
      exact budget_answerWrite_lt hs hc hu true
    simp only [Bool.or_eq_true, Bool.and_eq_true, beq_iff_eq] at h
    rcases h with (h | ⟨ha, rfl⟩) | ⟨⟨hf, hi⟩, rfl⟩
    · obtain ⟨-, hi, hf, rfl⟩ := (aboutToSend_iff _ s).mp h
      rw [runFrame_sent hsend h] at ht
      cases ht
      exact budget_sends_lt hs hc hu hf hi (sendBytes_reacts hu hi hf)
    · exact hwrite (i := .ack) rfl rfl rfl (congrArg _ (if_pos (by simp [hu, ha])))
    · exact hwrite (i := .sync) rfl rfl rfl (execSync_out hu hf hi (outByte_sync hsend hf hi))
  · cases h
  · cases h

/-- Settles O55: answer by answer, and input by input. -/
theorem everyAnswerSpendsBudget : Obligations.EveryAnswerSpendsBudget := by
  unfold Obligations.EveryAnswerSpendsBudget
  refine fun s hs hc => ⟨fun lost hu => budget_deny_lt hs hc hu lost, budget_grant_lt hs hc, budget_tick s,
    fun e rest t hin hb h => ⟨(handles_of_step hin h).budget_le hb hs hc, ?_⟩⟩
  rintro bs rfl hsend hcarries
  rw [step_cons hin, handle] at h
  exact budget_runFrame_lt (s := { s with inbox := rest }) hs hc hsend hcarries h

end Sys2Proof.Machine
end

section
/-! Operations end within the bounds of R142 (spec/41_primitives.md). -/

namespace Sys2Proof.Machine

/-! ### A started operation has the bound of its kind as its budget -/

theorem passesLeft_first {s : State} {p : Params} (hp : s.params = p) (h : s.pass = 0) :
    (passesOf p).toNat = passesLeft s + 1 := by
  have hpos : 0 < (passesOf p).toNat := passesOf_pos p
  rw [passesLeft, h, hp]
  show _ = (passesOf p).toNat - 1 + 1
  omega

theorem Starts.budget {s t : State} (h : Starts s t) : budget t = requestBound s.params t.op := by
  cases h with
  | handshake o ho =>
    have hbound : requestBound s.params o = (passesOf s.params).toNat * passRequests s.params := by
      rcases ho with rfl | rfl <;> rfl
    show Machine.budget (hsBegin (accept o s)) = requestBound s.params o
    rw [hbound, passesLeft_first (s := hsBegin (accept o s)) (p := s.params) rfl rfl, Nat.succ_mul, hsBegin, hsPass,
      budget_beginWait (by decide)]
    simp [budgetAfter, passRequests, awaited]
    omega
  | fetch =>
    show Machine.budget (beginFrame _ _) = requestBound s.params .fetch
    rw [budget_beginFrame rfl]
    simp [budgetAfter, requestBound]
    omega
  | setup =>
    show Machine.budget (beginWait _ _) = requestBound s.params .setup
    rw [budget_beginWait (by decide)]
    simp [budgetAfter, requestBound, triesLeft, awaited, cueBytes, suEncode]
    omega
  | poll =>
    show Machine.budget (beginWait _ _) = requestBound s.params .poll
    rw [budget_beginWait (by decide)]
    simp [budgetAfter, requestBound, awaited]

theorem starts_of_exec {i : Instr} {o : Op} {s t : State}
    (h : (i, o) ∈
      [(Instr.handshake, Op.handshake), (.teardown, .teardown), (.fetch, .fetch), (.setup, .setup), (.poll, .poll)])
    (hb : s.busy = false) (ht : exec i s = .next t) : Starts s t ∧ t.op = o := by
  have hrun : ∀ u : State, (if s.busy then s else u) = u := fun u => if_neg (by simp [hb])
  simp only [List.mem_cons, Prod.mk.injEq, List.not_mem_nil, or_false] at h
  rcases h with ⟨rfl, rfl⟩ | ⟨rfl, rfl⟩ | ⟨rfl, rfl⟩ | ⟨rfl, rfl⟩ | ⟨rfl, rfl⟩ <;> cases ht <;>
    simp only [hrun]
  · exact ⟨.handshake .handshake (.inl rfl), rfl⟩
  · exact ⟨.handshake .teardown (.inr rfl), rfl⟩
  · exact ⟨.fetch, rfl⟩
  · exact ⟨suBegin_eq (accept .setup s) ▸ .setup, rfl⟩
  · exact ⟨.poll, rfl⟩

/-! ### Requests asked of the Transport, and budget -/

/-- Whether a request to the Transport is outstanding, as a count. -/
def asking (s : State) : Nat := if s.sub = .rd ∨ s.sub = .wr then 1 else 0

/-- A line of the pseudocode makes the one request it then waits for. -/
theorem Issues.requestsMade {s t : State} (h : Issues s t) : requestsMade t = requestsMade s + asking t := by
  cases h with
  | nothing t hu hr => simp [Machine.requestsMade, asking, hu, hr]
  | wait l u hr => simp [Machine.requestsMade, asking, beginWait, setRto, hr]
  | setRead l u hr => simp [Machine.requestsMade, asking, setRto, hr]
  | read l u hr => simp [Machine.requestsMade, asking, hr]
  | write l u hr => simp [Machine.requestsMade, asking, hr]
  | delay l u hr => simp [Machine.requestsMade, asking, beginDelay, hr]

/-- Every byte of a transmission is one write. -/
theorem requestsMade_gapped (s : State) (bs : List Byte) :
    requestsMade { s with requests := s.requests ++ gapped bs } = requestsMade s + bs.length := by
  induction bs with
  | nil => simp [requestsMade, gapped]
  | cons b bs ih =>
    simp [requestsMade, gapped] at ih ⊢
    omega

/-- The requests made and those the budget still allows stay within a bound, the outstanding one counted once. -/
def Within (bound : Nat) (s : State) : Prop :=
  StandsInv s ∧ CountInv s ∧ requestsMade s + budget s ≤ bound + asking s

theorem asking_le_budget {s : State} (hs : StandsInv s) (hc : CountInv s) : asking s ≤ budget s := by
  unfold asking
  split
  · have := budgetAfter_lt hs hc ‹_›
    omega
  · exact Nat.zero_le _

theorem Within.requestsMade_le {bound : Nat} {s : State} (h : Within bound s) : requestsMade s ≤ bound := by
  obtain ⟨hs, hc, hle⟩ := h
  have := asking_le_budget hs hc
  omega

/-- A line of the pseudocode answers something outstanding. -/
theorem Reacts.sub_ne_none {s t : State} (h : Reacts s t) (hs : StandsInv s) : s.sub ≠ .none := by
  cases h with
  | ignores h | ignoresByte _ _ _ h => exact absurd hs.2.1 (by simp [h])
  | nextByte hu | gap hu | fits _ hu | skips _ hu => simp [hu]
  | _ => simpa using of_stands (fun _ u => u != .none) ‹_› rfl

/-- A line of the pseudocode spends at least the request it makes. -/
theorem Reacts.within {bound : Nat} {s t : State} (h : Reacts s t) (hw : Within bound s) : Within bound t := by
  obtain ⟨hs, hc, hle⟩ := hw
  refine ⟨h.stands hs, h.counts hc, ?_⟩
  rcases h.issues with rfl | hi
  · exact hle
  · have hmade := hi.requestsMade
    by_cases hu : s.sub = .rd ∨ s.sub = .wr
    · have hlt := h.budget_lt hs hc hu
      have hone : asking s = 1 := if_pos hu
      omega
    · have hzero : asking s = 0 := if_neg hu
      have hdly : s.sub = .dly := by
        have := h.sub_ne_none hs
        revert hu this
        cases s.sub <;> simp
      have := h.budget_eq hdly
      omega

theorem Reads.within {bound : Nat} {s t : State} (h : Reads s t) (hw : Within bound s) : Within bound t := by
  induction h with
  | start => exact hw
  | held _ h ih => exact ih
  | react _ hu h ih => exact h.within ih

theorem within_lastByte {bound : Nat} {s : State} (hf : sendsFrame s.seq = true) (hi : s.idx = 0) (hw : Within bound s) :
    Within bound (lastByte s) := by
  obtain ⟨hs, hc, hle⟩ := hw
  refine ⟨hs, countInv_lastByte hc, ?_⟩
  have hbudget := budget_lastByte hf hi
  have hmade : requestsMade (lastByte s) = requestsMade s + (outFrame s).tail.length := requestsMade_gapped s _
  have hasking : asking (lastByte s) = asking s := rfl
  rw [List.length_tail] at hmade
  omega

theorem Answered.within {bound : Nat} {s t : State} (h : Answered s t) (hw : Within bound s) : Within bound t := by
  cases h with
  | reads h => exact h.within hw
  | write _ h | delayEnds _ h => exact h.within hw
  | sends _ hf hi h => exact h.within (within_lastByte hf hi hw)
  | delayCounts => exact hw

theorem within_resetInput {bound : Nat} {s : State} (hw : Within bound s) : Within bound (resetInput s) := by
  have hmade : requestsMade (resetInput s) = requestsMade s := by simp [requestsMade, resetInput]
  have hle := hw.requestsMade_le
  exact ⟨standsInv_resetInput s, countInv_resetInput s, by rw [hmade]; exact Nat.le_add_right_of_le hle⟩

/-- While an operation is in progress, every step keeps its requests within the bound. -/
theorem Within.step {bound : Nat} {s t : State} (hw : Within bound s) (hb : s.busy = true) (h : step s = .next t) :
    Within bound t := by
  cases hin : s.inbox with
  | nil =>
    cases (step_nil hin).symm.trans h
    exact hw
  | cons e rest =>
    cases handles_of_step hin h with
    | ignoresStart | writesCs => exact hw
    | starts hb' => exact absurd hb' (by simp [hb])
    | resets => exact within_resetInput (s := { s with inbox := rest }) hw
    | answers _ h => exact h.within hw

theorem busyFor_succ {n : Nat} {s t : State} (h : busyFor (n + 1) s) (hst : step s = .next t) :
    s.busy = true ∧ busyFor n t :=
  ⟨h 0 (Nat.succ_pos n) s rfl, fun k hk v hv => h (k + 1) (Nat.succ_lt_succ hk) v ((run_succ k s t hst).trans hv)⟩

theorem Within.run {bound : Nat} : ∀ (n : Nat) {s u : State}, Within bound s → busyFor n s →
    Host.Core.run Sys2Proof.core n s = .next u → Within bound u
  | 0, s, u, hw, _, hu => by
    cases hu
    exact hw
  | n + 1, s, u, hw, hb, hu => by
    obtain ⟨t, ht⟩ := everyStepAnswersNext s
    obtain ⟨hbusy, hb'⟩ := busyFor_succ hb ht
    rw [run_succ n s t ht] at hu
    exact (hw.step hbusy ht).run n hb' hu

/-! ### Where everything is answered -/

/-- The ticks and answers still to come, 43 to a request: the answer and the ticks of a gap. -/
def stepsLeft (s : State) : Nat := 43 * budget s + s.timer.toNat

/-- What the invariants say of a state the machine can be in (R11, R14, R63, R246). -/
def Running (s : State) : Prop := StandsInv s ∧ CountInv s ∧ TimerInv s ∧ SendingInv s

theorem Running.step {s t : State} (h : Running s) (ht : step s = .next t) : Running t := by
  obtain ⟨hs, hc, htimer, hsend⟩ := h
  exact ⟨keeps_standsInv.step s t hs ht, (keeps_countInv.step s t ⟨hs, hc⟩ ht).2, (keeps_timerInv.step s t ⟨hs, htimer⟩ ht).2,
    everyStepKeepsSending s t hs hsend ht⟩

theorem TimerInv.timer_le {s : State} (h : TimerInv s) : s.timer.toNat ≤ 42 := by
  by_cases hu : s.sub = .dly
  · refine (h.1 hu).2.trans ?_
    unfold delayMs
    split <;> decide
  · rw [h.2 hu]
    decide

/-- An answer that spends budget brings the end nearer, whatever delay it starts. -/
theorem stepsLeft_lt_of_budget {s t : State} (ht : TimerInv t) (h : budget t < budget s) : stepsLeft t < stepsLeft s := by
  have := TimerInv.timer_le ht
  unfold stepsLeft
  omega

theorem timer_endDelay (s : State) : (endDelay s).timer = 0 := by
  by_cases hq : s.seq = .suSettle
  · rw [endDelay_settle hq, suAfterSettle, suWriteLoop, attemptLoop_first]
    rfl
  · rw [endDelay_of_ne hq]
    rfl

theorem stepsLeft_tick {s : State} (ht : TimerInv s) (hu : s.sub = .dly) : stepsLeft (tick s) < stepsLeft s := by
  obtain ⟨hpos, -⟩ := ht.1 hu
  rw [stepsLeft, stepsLeft, budget_tick]
  refine Nat.add_lt_add_left ?_ _
  by_cases h1 : 1 < s.timer
  · have h1' : 1 ≤ s.timer := Nat.le_of_lt h1
    rw [tick_counts hu h1]
    show (s.timer - 1).toNat < _
    rw [BitVec.toNat_sub_of_le h1']
    exact Nat.sub_lt hpos Nat.one_pos
  · rw [tick_ends hu h1, timer_endDelay]
    exact hpos

/-- An answer, or a tick of the running delay, brings the end nearer. -/
theorem stepsLeft_lt {s t : State} {e : Input} {rest : List Input} (h : Running s) (hin : s.inbox = e :: rest)
    (ha : answers e s = true) (ht : step s = .next t) : stepsLeft t < stepsLeft s := by
  obtain ⟨hs, hc, htimer, hsend⟩ := id h
  obtain ⟨-, -, htimer', -⟩ := h.step ht
  have hspent : budget t < budget s → stepsLeft t < stepsLeft s := stepsLeft_lt_of_budget htimer'
  rw [step_cons hin] at ht
  cases e with
  | grant =>
    rw [handle_grant] at ht
    cases ht
    have hready : s.sub = .wr ∨ readReady s = true := by simpa [answers] using ha
    exact hspent (budget_grant_lt (s := { s with inbox := rest }) hs hc hready)
  | deny lost =>
    cases ht
    exact hspent (budget_deny_lt (s := { s with inbox := rest }) hs hc (by simpa [answers] using ha) lost)
  | tick =>
    cases ht
    exact stepsLeft_tick (s := { s with inbox := rest }) htimer (by simpa [answers] using ha)
  | frame bs => exact hspent (budget_runFrame_lt (s := { s with inbox := rest }) hs hc hsend ha ht)
  | start | writeCs | reset => cases ha

/-- Where everything outstanding is answered, the operation is over when no step is left. -/
theorem Running.ends {s : State} (h : Running s)
    (hfair : ∀ (n : Nat) (v : State), Host.Core.run Sys2Proof.core n s = .next v → v.busy = true →
      ∃ e, v.inbox.head? = some e ∧ answers e v = true) :
    ∃ (n : Nat) (v : State), n ≤ stepsLeft s ∧ Host.Core.run Sys2Proof.core n s = .next v ∧ v.busy = false := by
  induction hm : stepsLeft s using Nat.strong_induction_on generalizing s with
  | _ m ih =>
    subst hm
    cases hb : s.busy with
    | false => exact ⟨0, s, Nat.zero_le _, rfl, hb⟩
    | true =>
      obtain ⟨e, he, ha⟩ := hfair 0 s rfl hb
      obtain ⟨rest, hin⟩ := List.head?_eq_some_iff.mp he
      obtain ⟨t, ht⟩ := everyStepAnswersNext s
      have hlt := stepsLeft_lt h hin ha ht
      obtain ⟨n, v, hn, hv, hvb⟩ := ih _ hlt (h.step ht)
        (fun n v hv => hfair (n + 1) v ((run_succ n s t ht).trans hv)) rfl
      exact ⟨n + 1, v, by omega, (run_succ n s t ht).trans hv, hvb⟩

/-- Settles O54: the requests by the budget of the start, the end by the steps left. -/
theorem operationsEndWithinTheirBound : Obligations.OperationsEndWithinTheirBound := by
  unfold Obligations.OperationsEndWithinTheirBound
  refine ⟨fun i o s t hi hb ht => ?_, fun s hs hc htimer hsend hfair => Running.ends ⟨hs, hc, htimer, hsend⟩ hfair⟩
  obtain ⟨hstart, rfl⟩ := starts_of_exec hi hb ht
  refine ⟨hstart.budget, fun n u hbusy hu => Within.requestsMade_le (Within.run n ⟨hstart.stands, hstart.counts, ?_⟩ hbusy hu)⟩
  rw [hstart.issues.requestsMade, hstart.budget]
  omega

end Sys2Proof.Machine
end
